-- ==== Sys2Proof/Word.lean ====
section
/-! DEFINITION. The widths of MBCORE's values (00_scope.md R2, R3). -/

namespace Sys2Proof

/-- A u32: every register of the host window, every word on the link and every payload address
(00_scope.md R2, R3; 20_memory.md R34). -/
abbrev Word := BitVec 32

/-- A u16: the checksum accumulator and polynomial (00_scope.md R2). -/
abbrev Half := BitVec 16

/-- One byte of the payload address space or of the image (20_memory.md R34). -/
abbrev Byte := BitVec 8

end Sys2Proof
end

