-- ==== Sys2Proof/Config.lean ====
section
/-! DEFINITION. What an implementation of MBCORE fixes (00_scope.md R4 to R8), and the one value the
spec leaves without a statement. A machine's parameters are the plain structure `Params`, which the state
carries and no step changes, so that a statement about every state holds for every value of every
parameter. The constants of `Config` have no body: they are the unknown parameters of the machine that
`State.reset` describes. -/

namespace Sys2Proof

/-- P_XPORT_ERR_POLICY (00_scope.md R6): what SEQ does when the link reports a transport error. -/
inductive XportErrPolicy where
  | abort
  | ignore
deriving DecidableEq, Repr

/-- The implementation parameters of 00_scope.md section 4, with the spec's widths. -/
structure Params where
  /-- P_KEY_P2P (R4). -/
  keyP2P : Word
  /-- P_KEY_SH (R5). -/
  keySH : Word
  /-- P_XPORT_ERR_POLICY (R6). -/
  xportErrPolicy : XportErrPolicy
  /-- P_IMAGE_LEN (R7). -/
  imageLen : Word
  /-- P_IMAGE (R7). -/
  image : List Byte
  /-- P_ACK_WAIT_TICKS (R8), a natural number. -/
  ackWaitTicks : Nat
deriving DecidableEq, Repr

/-- The unknown P_KEY_P2P of the machine at `State.reset` (R4, OPEN). -/
opaque Config.keyP2P : Word

/-- How far, less one, the unknown P_KEY_SH lies above P_KEY_P2P mod 2^32: any of the 2^32 - 1
values that make the two keys distinct (R5, OPEN). -/
opaque Config.keyGap : Fin 4294967295

/-- The unknown P_IMAGE_LEN of the machine at `State.reset` (R7, OPEN). -/
opaque Config.imageLen : Word

/-- The unknown bytes of P_IMAGE, by position (R7, OPEN). -/
opaque Config.imageByte : Nat → Byte

/-- The unknown P_ACK_WAIT_TICKS of the machine at `State.reset` (R8, OPEN). -/
opaque Config.ackWaitTicks : Nat

/-- FREE VALUE (DESIGN CHOICE, log 8). What the 32-bit register SEQ_WAIT is loaded with when
P_ACK_WAIT_TICKS, any natural number (R8), is too large for it. The spec states no such value. -/
opaque Config.ackWaitOverflow : Nat → Word

/-- The parameters of the machine at `State.reset`. The keys, the image and the wait length are unknown
(R4, R5, R7, R8), the keys are distinct by construction (R5), and the transport-error policy is the
spec's default (R6). DESIGN CHOICE, log 7. -/
def Config.params : Params where
  keyP2P := Config.keyP2P
  keySH := Config.keyP2P + 1#32 + BitVec.ofNat 32 Config.keyGap.val
  xportErrPolicy := .abort
  imageLen := Config.imageLen
  image := (List.range Config.imageLen.toNat).map Config.imageByte
  ackWaitTicks := Config.ackWaitTicks

end Sys2Proof
end

