-- ==== Sys2Proof/Syntax.lean ====
section
/-! DEFINITION. The six commands of MBCORE (30_encoding.md R58), the fields of a command word (R57),
the host's bus operations (20_memory.md R35, 30_encoding.md R64, R65) and the pseudo-instructions (R66). -/

namespace Sys2Proof

/-- The MODE bit of a command (30_encoding.md R60): 1 is peer-to-peer, 0 is single-host. -/
inductive Mode where
  | singleHost
  | peerToPeer
deriving DecidableEq, Repr

/-- The commands, one per row of spec/opcode_table.json, in the table's order (30_encoding.md R58). The
operands are OPA and OPB, so that a command carries none but its mode (R59, R60). -/
inductive Instr where
  /-- CRC.INIT (40_checksum.md R72). -/
  | crcInit (mode : Mode)
  /-- CRC.ACC (R73). -/
  | crcAcc
  /-- CRC.FIN (R74). -/
  | crcFin
  /-- CIPH.INIT (41_cipher.md R80). -/
  | ciphInit (mode : Mode)
  /-- CIPH.XFORM (R81). -/
  | ciphXform
  /-- SEQ.START (42_sequencer.md R88). -/
  | seqStart
deriving DecidableEq, Repr

/-- The fields of the one command format CMD32 (30_encoding.md R57). -/
structure Cmd32 where
  /-- Bits 3:0. -/
  op : BitVec 4
  /-- Bit 4. -/
  mode : BitVec 1
  /-- Bits 31:5. -/
  rsv : BitVec 27
deriving DecidableEq, Repr

/-- The command error codes (60_exceptions.md R108). Decoding rejects a word with ILLEGAL_OP or
RSVD_BITS; the other two depend on the state. -/
inductive CmdErr where
  | ok
  | illegalOp
  | rsvdBits
  | notInit
  | seqBusy
deriving DecidableEq, Repr

/-- The registers of the host window (10_state.md section 8). -/
inductive Reg where
  | cmd | opa | opb | result | cmdstat
  | cksAcc | cksPoly | cksHh | cksHl | cksCtl
  | kscSeed | kscKey | kscCtl
  | seqStat | seqLen | seqBase | seqAtt | seqWcnt | seqLastw | seqTerr | seqWait
deriving DecidableEq, Repr

/-- The width of an access an arbitrary bus master could attempt. Only words are in MBCORE's contract
(20_memory.md R35). -/
inductive Width where
  | byte
  | half
  | word
deriving DecidableEq, Repr

/-- A bus operation: a direction, an offset and the data of a write (30_encoding.md R65), with the width
that the interface contract speaks of (20_memory.md R35). -/
inductive BusOp where
  | write (width : Width) (offset : Nat) (data : Word)
  | read (width : Width) (offset : Nat)
deriving DecidableEq, Repr

/-- A line of a host program (30_encoding.md R64): WR and RD are bus operations, and POLL repeats an RD of
the register at `offset` until the value read, masked, is `value`. -/
inductive HostLine where
  | bus (op : BusOp)
  | poll (offset : Nat) (mask value : Word)
deriving DecidableEq, Repr

/-- The direction of a bus triple (30_encoding.md R65). -/
inductive Dir where
  | W
  | R
deriving DecidableEq, Repr

/-- The bus triple `(dir, offset, data)`, with no data for a read (30_encoding.md R65). -/
structure BusTriple where
  dir : Dir
  offset : Nat
  data : Option Word
deriving DecidableEq, Repr

/-- The pseudo-instructions (30_encoding.md R66). -/
inductive Pseudo where
  | crcInit (hh hl : Word) (m : Mode)
  | crcAcc (w : Word)
  | crcFin (w : Word)
  | ciphInit (seed : Word) (m : Mode)
  | ciphXform (d p : Word)
  | seqStart (len base : Word)
  | seqWaitIdle
deriving DecidableEq, Repr

end Sys2Proof
end

