-- ==== Sys2Proof/WellFormed.lean ====
section
/-! DEFINITION. What the spec calls a legal command word, a legal host access and a legal choice of
parameters. Every term of `Instr` is well formed: its one operand is a `Mode`, and both modes are legal
where a command takes one (30_encoding.md R60). -/

namespace Sys2Proof

/-- The fields of a command word that executes as far as its bits decide it: OP is listed (30_encoding.md
R62), RSV is 0 (R61), and MODE is 0 unless the command takes a mode (R60). -/
def Cmd32.wellFormed (c : Cmd32) : Bool :=
  decide (1 ≤ c.op.toNat ∧ c.op.toNat ≤ 6)
    && decide (c.rsv = 0#27)
    && decide (c.mode = 0#1 ∨ c.op = 1#4 ∨ c.op = 4#4)

/-- An access inside the interface contract: a word, at an offset below 0x100 with bits 1:0 equal to 0
(20_memory.md R35). -/
def Width.admits (w : Width) (offset : Nat) : Bool :=
  decide (w = .word) && decide (offset < 0x100) && decide (offset % 4 = 0)

/-- A bus operation inside the interface contract (20_memory.md R35). -/
def BusOp.wellFormed : BusOp → Bool
  | .write w o _ => w.admits o
  | .read w o => w.admits o

/-- A host line inside the interface contract; POLL is a loop of word reads (30_encoding.md R64). -/
def HostLine.wellFormed : HostLine → Bool
  | .bus op => op.wellFormed
  | .poll o _ _ => Width.word.admits o

/-- A legal choice of parameters: the two keys differ (00_scope.md R5), and the image has the stated
length (R7). -/
def Params.wellFormed (p : Params) : Bool :=
  decide (p.keyP2P ≠ p.keySH) && decide (p.image.length = p.imageLen.toNat)

end Sys2Proof
end

