-- ==== Sys2Proof/Decode.lean ====
section
/-! DEFINITION. Decoding a command word, total on all 2^32 words, in the order of checks of 30_encoding.md
R63; after it the encoder, from the same table (R57, R58, R60). The checks of R63 that read the state
(NOT_INIT, SEQ_BUSY) belong to the commands' meanings. -/

namespace Sys2Proof

/-- The value of the MODE bit (30_encoding.md R60). -/
def Mode.bit : Mode → BitVec 1
  | .singleHost => 0#1
  | .peerToPeer => 1#1

/-- The mode a MODE bit selects: 1 is peer-to-peer, and 0, the "otherwise" case, single-host
(30_encoding.md R60). -/
def Mode.ofBit (b : BitVec 1) : Mode :=
  if b = 1#1 then .peerToPeer else .singleHost

/-- The fields of a command word (30_encoding.md R57). -/
def fieldsOfWord (w : Word) : Cmd32 where
  op := w.extractLsb' 0 4
  mode := w.extractLsb' 4 1
  rsv := w.extractLsb' 5 27

/-- The command of an opcode, given its MODE bit; `none` for a reserved opcode (30_encoding.md R58, R62). -/
def instrOfOpcode (op : BitVec 4) (mode : BitVec 1) : Option Instr :=
  if op = 0x1#4 then some (.crcInit (Mode.ofBit mode))
  else if op = 0x2#4 then some .crcAcc
  else if op = 0x3#4 then some .crcFin
  else if op = 0x4#4 then some (.ciphInit (Mode.ofBit mode))
  else if op = 0x5#4 then some .ciphXform
  else if op = 0x6#4 then some .seqStart
  else none

/-- Whether a command takes a mode (30_encoding.md R60): CRC.INIT and CIPH.INIT only. -/
def Instr.takesMode : Instr → Bool
  | .crcInit _ => true
  | .ciphInit _ => true
  | .crcAcc => false
  | .crcFin => false
  | .ciphXform => false
  | .seqStart => false

/-- The first three checks of the decode function of 30_encoding.md R63, in its order. -/
def decodeFields (c : Cmd32) : Except CmdErr Instr :=
  match instrOfOpcode c.op c.mode with
  | none => .error .illegalOp
  | some i =>
    if c.rsv ≠ 0#27 then .error .rsvdBits
    else if c.mode = 1#1 ∧ i.takesMode = false then .error .rsvdBits
    else .ok i

/-- Decoding the word of a write to CMD (30_encoding.md R63): the command, or the code it fails with. -/
def decodeCommand (w : Word) : Except CmdErr Instr :=
  decodeFields (fieldsOfWord w)

/-- The opcode of a command (30_encoding.md R58). -/
def Instr.opcode : Instr → BitVec 4
  | .crcInit _ => 0x1#4
  | .crcAcc => 0x2#4
  | .crcFin => 0x3#4
  | .ciphInit _ => 0x4#4
  | .ciphXform => 0x5#4
  | .seqStart => 0x6#4

/-- The MODE bit of a command's word, 0 where it takes no mode (30_encoding.md R60). -/
def Instr.modeBit : Instr → BitVec 1
  | .crcInit m => m.bit
  | .ciphInit m => m.bit
  | .crcAcc => 0#1
  | .crcFin => 0#1
  | .ciphXform => 0#1
  | .seqStart => 0#1

/-- The word made of the three fields of CMD32 (30_encoding.md R57). -/
def wordOfFields (c : Cmd32) : Word :=
  c.rsv ++ c.mode ++ c.op

/-- The command word of a command: its opcode, its mode, and RSV = 0 (30_encoding.md R57, R58, R61). -/
def encodeCommand (i : Instr) : Word :=
  wordOfFields { op := i.opcode, mode := i.modeBit, rsv := 0#27 }

/-- The words of a command: always exactly one (30_encoding.md R57). -/
def encode (i : Instr) : List Word :=
  [encodeCommand i]

/-- The command that the decoder reads from the low `nbits` bits of `w`, every bit above them 0. A command
is one 32-bit word, and on the bus a word is a value, not bytes (30_encoding.md R57; 20_memory.md R47). -/
def decodeTableWord (nbits w : Nat) : Option Instr :=
  match decodeCommand (BitVec.ofNat 32 (w % 2 ^ nbits)) with
  | .ok i => some i
  | .error _ => none

end Sys2Proof
end

