-- ==== Sys2Proof/Machine/State.lean ====
section
/-! DEFINITION. The state of MBCORE and of the agents around it, as plain data (10_state.md R9 to R33),
the closed lists of faults and refusals, and the state after reset (70_reset_and_hazards.md R120). -/

namespace Sys2Proof.Machine

/-- The sub-steps of SENDING_IMAGE (10_state.md R23): SUB = 0 CHECK, 1 BULK. -/
inductive SendSub where
  | check
  | bulk
deriving DecidableEq, Repr

/-- The sub-steps of AWAITING_ACK (10_state.md R23): SUB = 0 PROBE_W, 1 PROBE_R, 2 WAIT. -/
inductive AckSub where
  | probeW
  | probeR
  | wait
deriving DecidableEq, Repr

/-- SEQ's position, the pair (STATE, SUB) of SEQ_STAT (10_state.md R12, R23). The pairs the spec says are
never held (93_implementation_defined.md I7) have no representation: DEDUCED, log 10. -/
inductive SeqState where
  | idle
  | sendingImage (sub : SendSub)
  | awaitingAck (sub : AckSub)
  | announcingSize
  | streaming
  | done
  | failed
deriving DecidableEq, Repr

/-- SEQ_STAT.CODE, the outcome of a session (60_exceptions.md R111). -/
inductive SeqCode where
  | none
  | ok
  | precondition
  | timeout
  | transport
deriving DecidableEq, Repr

/-- The `link_mode` input (10_state.md R31, 60_exceptions.md R107). -/
inductive LinkMode where
  | primitive
  | upgraded
deriving DecidableEq, Repr

/-- The link agent's answer to a transaction (60_exceptions.md R105). An answer to SEND_BULK is a status,
which SEQ discards (42_sequencer.md R90). -/
inductive LinkAnswer where
  | ok (v : Word)
  | err (code d : Word)
deriving DecidableEq, Repr

/-- A transaction SEQ asks of the link agent (60_exceptions.md R105). -/
inductive LinkRequest where
  | sendBulk (image : List Byte) (len : Word)
  | writeWord (w : Word)
  | readWord
deriving DecidableEq, Repr

/-- The kinds of event of the output trace (10_state.md R32). The bytes sent are 4 times a word count, an
unbounded natural number that can be 2^32: DEDUCED, log 9. -/
inductive Event where
  | linkSendBulk (len : Word)
  | linkWriteWord (w : Word)
  | linkReadWord (answer : LinkAnswer)
  | progress (bytesSent : Nat) (totalBytes word : Word)
  | verifyOk (word : Word)
deriving DecidableEq, Repr

/-- One turn of one agent (10_state.md R9), or a reset (70_reset_and_hazards.md R120). A turn of SEQ
carries the link agent's answer, when the link agent answers at that turn (60_exceptions.md R105, R106). -/
inductive Turn where
  /-- The host performs its next bus access. -/
  | host
  /-- SEQ takes its step, if one is enabled. -/
  | seq (answer : Option LinkAnswer)
  /-- The timer delivers a tick. -/
  | tick
  /-- The link agent drives `link_mode`. -/
  | linkMode (m : LinkMode)
  /-- Another writer of the payload space writes a byte. -/
  | payloadWrite (a : Word) (b : Byte)
  /-- A reset. -/
  | reset
deriving DecidableEq, Repr

/-- What a host read returned: the offset read and the value (20_memory.md R36). -/
structure HostRead where
  offset : Nat
  value : Word
deriving DecidableEq, Repr

/-- The payload address space as a list of cells: addresses strictly rising, no cell that holds the value
an unlisted address reads as (`Memory.wf` of Machine/Ops.lean). -/
abbrev Memory := List Host.Cell

/-- The machine, its parameters and the agents around it. -/
structure State where
  /-- OPA (10_state.md R10). -/
  opa : Word
  /-- OPB (R10). -/
  opb : Word
  /-- RESULT (R11). -/
  result : Word
  /-- CMDSTAT.ERR (R14). -/
  cmdErr : CmdErr
  /-- CMDSTAT.OP (R14). -/
  cmdOp : BitVec 4
  /-- CKS_ACC bits 15:0 (R15). -/
  cksAcc : Half
  /-- CKS_POLY bits 15:0 (R16). -/
  cksPoly : Half
  /-- CKS_HH (R17). -/
  cksHh : Word
  /-- CKS_HL (R18). -/
  cksHl : Word
  /-- CKS_CTL.V (R19). -/
  cksV : Bool
  /-- CKS_CTL.MODE (R19). -/
  cksMode : Mode
  /-- KSC_SEED (R20). -/
  kscSeed : Word
  /-- KSC_KEY (R21). -/
  kscKey : Word
  /-- KSC_CTL.V (R22). -/
  kscV : Bool
  /-- KSC_CTL.MODE (R22). -/
  kscMode : Mode
  /-- SEQ_STAT.STATE and SEQ_STAT.SUB (R23); BUSY mirrors it. -/
  seqState : SeqState
  /-- SEQ_STAT.CODE (R23). -/
  seqCode : SeqCode
  /-- SEQ_STAT.VMATCH (R23). -/
  seqVmatch : Bool
  /-- SEQ_LEN (R24). -/
  seqLen : Word
  /-- SEQ_BASE (R25). -/
  seqBase : Word
  /-- SEQ_ATT bits 4:0 (R26). -/
  seqAtt : BitVec 5
  /-- SEQ_WCNT (R27). -/
  seqWcnt : Word
  /-- SEQ_LASTW (R28). -/
  seqLastw : Word
  /-- SEQ_TERR (R29). -/
  seqTerr : Word
  /-- SEQ_WAIT (R30). -/
  seqWait : Word
  /-- The event trace, oldest event first (R32). -/
  trace : List Event
  /-- The implementation parameters (00_scope.md R4 to R8), the image ROM among them (R33). -/
  params : Params
  /-- The `link_mode` input as the link agent drives it (R31). -/
  linkMode : LinkMode
  /-- The payload address space, outside MBCORE (20_memory.md R34). -/
  payload : Memory
  /-- The model's own: the lines the host has still to perform, in its program order (20_memory.md R51). -/
  hostProgram : List HostLine
  /-- The model's own: what the host's reads returned, oldest first (20_memory.md R36). -/
  hostReads : List HostRead
  /-- The model's own: the interleaving, the turns still to come (20_memory.md R52). -/
  schedule : List Turn
deriving DecidableEq, Repr

/-- Why MBCORE stops with a fault: it never does. "MBCORE never traps", and every error is a code in a
register (60_exceptions.md R104). No one raises a fault, which is safe. -/
inductive Fault where
deriving DecidableEq, Repr

/-- Why the model refuses a step. -/
inductive Refusal where
  /-- Raised by an arm of `exec` for a command that has no meaning yet. No arm raises it. Safe. -/
  | notModelled (mnemonic : String)
  /-- Raised by a host access of a byte or a halfword, which is outside the interface contract
  (20_memory.md R35, 93_implementation_defined.md I6). Safe: nothing is claimed of it. -/
  | narrowHostAccess
  /-- Raised by a host access at an offset of 0x100 or more, outside the contract (R35, I6). Safe. -/
  | hostAccessOutsideWindow
  /-- Raised by a host access at an offset with bits 1:0 other than 0, outside the contract (R35, I6). Safe. -/
  | misalignedHostAccess
deriving DecidableEq, Repr

/-- MBCORE right after reset (70_reset_and_hazards.md R120): every register is 0, SEQ is IDLE. The fields
that are no register are the model's: parameters (log 7), `link_mode` (log 5), payload (log 6), trace and
reads (log 13, log 3), host program (log 2), schedule (log 1). -/
def State.reset : State where
  opa := 0#32
  opb := 0#32
  result := 0#32
  cmdErr := .ok
  cmdOp := 0#4
  cksAcc := 0#16
  cksPoly := 0#16
  cksHh := 0#32
  cksHl := 0#32
  cksV := false
  cksMode := .singleHost
  kscSeed := 0#32
  kscKey := 0#32
  kscV := false
  kscMode := .singleHost
  seqState := .idle
  seqCode := .none
  seqVmatch := false
  seqLen := 0#32
  seqBase := 0#32
  seqAtt := 0#5
  seqWcnt := 0#32
  seqLastw := 0#32
  seqTerr := 0#32
  seqWait := 0#32
  trace := []
  params := Config.params
  linkMode := .primitive
  payload := []
  hostProgram := []
  hostReads := []
  schedule := []

end Sys2Proof.Machine
end

