-- ==== Sys2Proof/Machine/Ops.lean ====
section
/-! DEFINITION. The shared operations: the payload address space, the event trace, the outcome of a command
and the end of a session by a transport error. MBCORE has no exceptions (60_exceptions.md R104): a command
that fails goes through `failCommand`, a session that a transport error ends through `transportAbort`. -/

namespace Sys2Proof.Machine

/-- The byte an address not listed in the payload reads as. DESIGN CHOICE, log 6: the payload lies outside
MBCORE and the spec gives it no reset contents. -/
def Memory.unlisted : Byte := 0x00#8

/-- The one canonical form of the payload: addresses strictly rising and below 2^32 (20_memory.md R34), no
cell equal to what an unlisted address reads as. -/
abbrev Memory.wf (m : Memory) : Prop :=
  m.Pairwise (fun x y => x.1 < y.1) ∧ ∀ c ∈ m, c.1 < 2 ^ 32 ∧ c.2 ≠ Memory.unlisted

/-- The byte the payload holds at an address (20_memory.md R40, R43). -/
def Memory.readByte : Memory → Nat → Byte
  | [], _ => Memory.unlisted
  | (k, v) :: rest, a => if k = a then v else Memory.readByte rest a

/-- A byte put at the front of the cells above its address, or left out if an unlisted address reads as it. -/
def Memory.consCell (a : Nat) (b : Byte) (rest : Memory) : Memory :=
  if b = Memory.unlisted then rest else (a, b) :: rest

/-- The payload after another agent writes one byte (20_memory.md R44), in canonical form. -/
def Memory.writeByte : Memory → Nat → Byte → Memory
  | [], a, b => Memory.consCell a b []
  | (k, v) :: rest, a, b =>
    if k < a then (k, v) :: Memory.writeByte rest a b
    else if k = a then Memory.consCell a b rest
    else Memory.consCell a b ((k, v) :: rest)

/-- `LE32(b0, b1, b2, b3)`, `b0` at the lowest address (00_scope.md section 5; 20_memory.md R45). -/
def le32 (b0 b1 b2 b3 : Byte) : Word :=
  b0.setWidth 32 ||| (b1.setWidth 32 <<< 8) ||| (b2.setWidth 32 <<< 16) ||| (b3.setWidth 32 <<< 24)

/-- `MemRead8(a)` (20_memory.md R40). -/
def memRead8 (s : State) (a : Word) : Byte :=
  Memory.readByte s.payload a.toNat

/-- `Emit(event)`: append to the event trace (10_state.md R32). -/
def emit (e : Event) (s : State) : State :=
  { s with trace := s.trace ++ [e] }

/-- The outcome of a CMD write in CMDSTAT: every write to CMD writes both fields (10_state.md R14). -/
def setCmdstat (op : BitVec 4) (e : CmdErr) (s : State) : State :=
  { s with cmdErr := e, cmdOp := op }

/-- `fail(CODE)`: the command is rejected, CMDSTAT records the code and the opcode, and nothing else changes
(60_exceptions.md R109). -/
def failCommand (op : BitVec 4) (e : CmdErr) (s : State) : State :=
  setCmdstat op e s

/-- The end of a session by a transport error under ABORT, the LINK event having been emitted
(42_sequencer.md R99). -/
def transportAbort (code : Word) (s : State) : State :=
  { s with seqTerr := code, seqState := .failed, seqCode := .transport }

end Sys2Proof.Machine
end

