-- ==== Sys2Proof/Machine/Operands.lean ====
section
/-! DEFINITION. The fixed constants (00_scope.md R1), the values a command's MODE selects (40_checksum.md
R67; 41_cipher.md R77), and what a link answer carries (60_exceptions.md R105). A command's other operands
are the registers OPA and OPB, read whole (30_encoding.md R59). -/

namespace Sys2Proof.Machine

/-- KSC_MUL (00_scope.md R1). -/
def kscMul : Word := 0x6F646573#32

/-- LOAD_BASE (R1). -/
def loadBase : Word := 0x02000000#32

/-- PROBE (R1). -/
def probe : Word := 0xFA57B007#32

/-- ACK_ATTEMPTS (R1). -/
def ackAttempts : Nat := 16

/-- The polynomial of a mode (40_checksum.md R67; CKS_POLY_P2P and CKS_POLY_SH of R1). -/
def cksPolyOf : Mode → Half
  | .peerToPeer => 0xA517#16
  | .singleHost => 0xC37B#16

/-- The initial accumulator of a mode (R67; CKS_ACC0_P2P and CKS_ACC0_SH of R1). -/
def cksAcc0Of : Mode → Half
  | .peerToPeer => 0xFFF8#16
  | .singleHost => 0xC387#16

/-- The key constant of a mode (41_cipher.md R77). -/
def kscKeyOf (p : Params) : Mode → Word
  | .peerToPeer => p.keyP2P
  | .singleHost => p.keySH

/-- The word SEQ_WAIT is loaded with, P_ACK_WAIT_TICKS (42_sequencer.md R92): a free value where the number
does not fit the 32-bit register (10_state.md R30). DESIGN CHOICE, log 8. -/
def ackWaitLoad (p : Params) : Word :=
  if p.ackWaitTicks < 2 ^ 32 then BitVec.ofNat 32 p.ackWaitTicks
  else Config.ackWaitOverflow p.ackWaitTicks

/-- The word a READ_WORD answer carries: the `v` of `OK(v)`, the `d` of `ERR(code, d)` (42_sequencer.md R92). -/
def LinkAnswer.data : LinkAnswer → Word
  | .ok v => v
  | .err _ d => d

/-- The code of a transport error that ends the session: an ERR answer, under policy ABORT (42_sequencer.md
R99). -/
def abortCode : XportErrPolicy → LinkAnswer → Option Word
  | .abort, .err code _ => some code
  | .abort, .ok _ => none
  | .ignore, .err _ _ => none
  | .ignore, .ok _ => none

end Sys2Proof.Machine
end

