-- ==== Sys2Proof/Machine/Flags.lean ====
section
/-! DEFINITION. The flag-like fields and the layout of the status registers: CMDSTAT (10_state.md R14),
CKS_CTL (R19), KSC_CTL (R22) and SEQ_STAT (R23). MBCORE has no condition codes (10_state.md section 8). -/

namespace Sys2Proof.Machine

/-- A flag as a bit. -/
def flagBit : Bool → BitVec 1
  | true => 1#1
  | false => 0#1

/-- The number of a command error code (60_exceptions.md R108). -/
def cmdErrNum : CmdErr → BitVec 4
  | .ok => 0#4
  | .illegalOp => 1#4
  | .rsvdBits => 2#4
  | .notInit => 3#4
  | .seqBusy => 4#4

/-- SEQ_STAT.STATE (10_state.md R23). -/
def SeqState.num : SeqState → BitVec 3
  | .idle => 0#3
  | .sendingImage _ => 1#3
  | .awaitingAck _ => 2#3
  | .announcingSize => 3#3
  | .streaming => 4#3
  | .done => 5#3
  | .failed => 6#3

/-- SEQ_STAT.SUB (R23): 0 in every state without sub-steps. -/
def SeqState.sub : SeqState → BitVec 2
  | .idle => 0#2
  | .sendingImage .check => 0#2
  | .sendingImage .bulk => 1#2
  | .awaitingAck .probeW => 0#2
  | .awaitingAck .probeR => 1#2
  | .awaitingAck .wait => 2#2
  | .announcingSize => 0#2
  | .streaming => 0#2
  | .done => 0#2
  | .failed => 0#2

/-- SEQ_STAT.BUSY: 1 when STATE is 1, 2, 3 or 4 (R23). -/
def SeqState.busy : SeqState → Bool
  | .idle => false
  | .sendingImage _ => true
  | .awaitingAck _ => true
  | .announcingSize => true
  | .streaming => true
  | .done => false
  | .failed => false

/-- SEQ_STAT.CODE (R23; 60_exceptions.md R111). -/
def SeqCode.num : SeqCode → BitVec 3
  | .none => 0#3
  | .ok => 1#3
  | .precondition => 2#3
  | .timeout => 3#3
  | .transport => 4#3

/-- The value read from CMDSTAT: ERR in bits 3:0, OP in bits 7:4 (R14). -/
def cmdstatWord (s : State) : Word :=
  0#24 ++ s.cmdOp ++ cmdErrNum s.cmdErr

/-- The value read from CKS_CTL or KSC_CTL: V in bit 0, MODE in bit 1 (R19, R22). -/
def ctlWord (v : Bool) (m : Mode) : Word :=
  0#30 ++ m.bit ++ flagBit v

/-- The value read from SEQ_STAT (R23): from bit 31 down, 19 reserved bits, BUSY, VMATCH, CODE, 3 reserved
bits, SUB, STATE. -/
def seqStatWord (s : State) : Word :=
  0#19 ++ flagBit s.seqState.busy ++ flagBit s.seqVmatch ++ s.seqCode.num ++ 0#3 ++ s.seqState.sub
    ++ s.seqState.num

/-- The word the final verification expects (42_sequencer.md R98). -/
def terminalSentinel (s : State) : Word :=
  loadBase + s.seqLen - 4#32

/-- The final verification, which becomes VMATCH (R98): at least one word was sent, and the last one is the
sentinel. -/
def verifyMatch (s : State) : Bool :=
  decide (0 < s.seqWcnt.toNat) && decide (s.seqLastw = terminalSentinel s)

end Sys2Proof.Machine
end

