-- ==== Sys2Proof/Machine/Checksum.lean ====
section
/-! DEFINITION. CKS, the checksum engine: the fold (40_checksum.md R68), the finalize word (R69), and the
meanings of CRC.INIT (R72), CRC.ACC (R73) and CRC.FIN (R74). -/

namespace Sys2Proof.Machine

/-- `n` iterations of the fold's loop (R68): feedback is bit 0 of accumulator XOR word, both shift right by
one, and the polynomial is XORed in on feedback. -/
def crcFoldLoop (poly : Half) : Nat → Half → Word → Half
  | 0, a, _ => a
  | n + 1, a, w =>
    let fb := a.getLsbD 0 ^^ w.getLsbD 0
    crcFoldLoop poly n (if fb then (a >>> 1) ^^^ poly else a >>> 1) (w >>> 1)

/-- `crc_fold(acc, poly, word)` (R68): exactly 32 iterations, from bit 0 of `word` up to bit 31. -/
def crcFold (acc poly : Half) (word : Word) : Half :=
  crcFoldLoop poly 32 acc word

/-- `crc_compose(word, hh, hl)` (R69). -/
def crcCompose (word hh hl : Word) : Word :=
  ((((word &&& 0xFF00#32) + hl) <<< 8) ||| 0xFFFF0000#32) + hh

/-- The accumulator's new value, which is also RESULT, zero-extended (R73, R74). -/
def putChecksum (a : Half) (s : State) : State :=
  { s with cksAcc := a, result := a.setWidth 32 }

/-- CRC.INIT (R72). It has no error of its own, and RESULT is not written. -/
def execCrcInit (mode : Mode) (s : State) : Host.Outcome State Fault Refusal :=
  .next { setCmdstat 0x1#4 .ok s with
    cksPoly := cksPolyOf mode
    cksAcc := cksAcc0Of mode
    cksHh := s.opa
    cksHl := s.opb
    cksMode := mode
    cksV := true }

/-- CRC.ACC (R73): NOT_INIT before the first CRC.INIT, else the word in OPA is folded in. -/
def execCrcAcc (s : State) : Host.Outcome State Fault Refusal :=
  if s.cksV then
    .next (putChecksum (crcFold s.cksAcc s.cksPoly s.opa) (setCmdstat 0x2#4 .ok s))
  else
    .next (failCommand 0x2#4 .notInit s)

/-- CRC.FIN (R74): NOT_INIT before the first CRC.INIT, else the word composed from OPA and the headers is
folded in. -/
def execCrcFin (s : State) : Host.Outcome State Fault Refusal :=
  if s.cksV then
    .next (putChecksum (crcFold s.cksAcc s.cksPoly (crcCompose s.opa s.cksHh s.cksHl))
      (setCmdstat 0x3#4 .ok s))
  else
    .next (failCommand 0x3#4 .notInit s)

end Sys2Proof.Machine
end

