-- ==== Sys2Proof/Machine/Cipher.lean ====
section
/-! DEFINITION. KSC, the keystream cipher: the seed step (41_cipher.md R78), the offset term (R79), and the
meanings of CIPH.INIT (R80) and CIPH.XFORM (R81). -/

namespace Sys2Proof.Machine

/-- `ksc_step(seed)` (R78), mod 2^32. -/
def kscStep (seed : Word) : Word :=
  seed * kscMul + 1#32

/-- `ksc_offset(position)` (R79): the two's-complement negation of position + LOAD_BASE. -/
def kscOffset (position : Word) : Word :=
  ~~~(position + loadBase) + 1#32

/-- CIPH.INIT (R80): the seed is stored as given, and RESULT is not written. -/
def execCiphInit (mode : Mode) (s : State) : Host.Outcome State Fault Refusal :=
  .next { setCmdstat 0x4#4 .ok s with
    kscSeed := s.opa
    kscKey := kscKeyOf s.params mode
    kscMode := mode
    kscV := true }

/-- CIPH.XFORM (R81): NOT_INIT before the first CIPH.INIT, else the seed advances and the advanced seed masks
the data. -/
def execCiphXform (s : State) : Host.Outcome State Fault Refusal :=
  if s.kscV then
    .next { setCmdstat 0x5#4 .ok s with
      kscSeed := kscStep s.kscSeed
      result := kscStep s.kscSeed ^^^ s.opa ^^^ kscOffset s.opb ^^^ s.kscKey }
  else
    .next (failCommand 0x5#4 .notInit s)

end Sys2Proof.Machine
end

