-- ==== Sys2Proof/Machine/Sequencer.lean ====
section
/-! DEFINITION. SEQ, the handshake and transfer sequencer: the meaning of SEQ.START (42_sequencer.md R88),
each of SEQ's own steps (R89 to R99), and the tick (R93). -/

namespace Sys2Proof.Machine

/-- SEQ.START (R88): SEQ_BUSY while a session runs (R87), else the session's arguments are latched and its
counters cleared. No link traffic happens here. -/
def execSeqStart (s : State) : Host.Outcome State Fault Refusal :=
  if s.seqState.busy then
    .next (failCommand 0x6#4 .seqBusy s)
  else
    .next { setCmdstat 0x6#4 .ok s with
      seqLen := s.opa
      seqBase := s.opb
      seqAtt := 0#5
      seqWcnt := 0#32
      seqLastw := 0#32
      seqTerr := 0#32
      seqWait := 0#32
      seqCode := .none
      seqVmatch := false
      seqState := .sendingImage .check }

/-- The address of byte `k` of the next payload word, mod 2^32 (20_memory.md R40). -/
def payloadAddr (s : State) (k : Nat) : Word :=
  s.seqBase + BitVec.ofNat 32 (4 * s.seqWcnt.toNat + k)

/-- The next payload word, its four bytes read in this step (20_memory.md R42, R45; 42_sequencer.md R96). -/
def payloadWord (s : State) : Word :=
  le32 (memRead8 s (payloadAddr s 0)) (memRead8 s (payloadAddr s 1)) (memRead8 s (payloadAddr s 2))
    (memRead8 s (payloadAddr s 3))

/-- The word count announced to the remote, `SEQ_LEN >> 2` (R95). -/
def announcedWords (s : State) : Word :=
  s.seqLen >>> 2

/-- Whether a payload word is still to be sent: `4 × SEQ_WCNT < SEQ_LEN` as unbounded naturals (R96). -/
def wordsLeft (s : State) : Bool :=
  decide (4 * s.seqWcnt.toNat < s.seqLen.toNat)

/-- The link transaction SEQ's next step needs, if it needs one (60_exceptions.md R105). -/
def linkRequest (s : State) : Option LinkRequest :=
  match s.seqState with
  | .idle => none
  | .sendingImage .check => none
  | .sendingImage .bulk => some (.sendBulk s.params.image s.params.imageLen)
  | .awaitingAck .probeW => some (.writeWord probe)
  | .awaitingAck .probeR => some .readWord
  | .awaitingAck .wait => none
  | .announcingSize => some (.writeWord (announcedWords s))
  | .streaming => if wordsLeft s then some (.writeWord (payloadWord s)) else none
  | .done => none
  | .failed => none

/-- The LINK event of a transaction and its answer (10_state.md R32). -/
def LinkRequest.event : LinkRequest → LinkAnswer → Event
  | .sendBulk _ len, _ => .linkSendBulk len
  | .writeWord w, _ => .linkWriteWord w
  | .readWord, r => .linkReadWord r

/-- Step SENDING_IMAGE/CHECK (R89): the link mode is sampled, with no link transaction. -/
def seqCheck (s : State) : State :=
  match s.linkMode with
  | .upgraded => { s with seqState := .failed, seqCode := .precondition }
  | .primitive => { s with seqState := .sendingImage .bulk }

/-- What follows an answer to SEND_BULK (R90): its status is discarded under either policy. -/
def seqBulk (s : State) : State :=
  { s with seqState := .awaitingAck .probeW }

/-- What follows an answer to the probe write that does not abort (R91). -/
def seqProbeWrite (s : State) : State :=
  { s with seqState := .awaitingAck .probeR }

/-- What follows a read-back that does not abort (R92): the attempt is counted, and a wait follows if the
word read is not the probe. -/
def seqProbeRead (r : LinkAnswer) (s : State) : State :=
  if r.data = probe then
    { s with seqAtt := s.seqAtt + 1#5, seqState := .announcingSize }
  else
    { s with
      seqAtt := s.seqAtt + 1#5
      seqState := .awaitingAck .wait
      seqWait := ackWaitLoad s.params }

/-- Step AWAITING_ACK/WAIT expiry (R94), enabled when SEQ_WAIT = 0. -/
def seqWaitExpiry (s : State) : State :=
  if s.seqWait = 0#32 then
    if s.seqAtt.toNat < ackAttempts then
      { s with seqState := .awaitingAck .probeW }
    else
      { s with seqState := .failed, seqCode := .timeout }
  else s

/-- What follows an answer to the size announcement that does not abort (R95). -/
def seqAnnounce (s : State) : State :=
  { s with seqState := .streaming }

/-- What follows an answer to a payload word `w` that does not abort (R96). -/
def seqStreamed (w : Word) (s : State) : State :=
  emit (.progress (4 * (s.seqWcnt.toNat + 1)) s.seqLen w)
    { s with seqLastw := w, seqWcnt := s.seqWcnt + 1#32 }

/-- Step STREAMING, end of stream (R98). A match emits VERIFY_OK, a mismatch emits nothing; the outcome is OK
either way. -/
def seqVerify (s : State) : State :=
  if verifyMatch s then
    emit (.verifyOk s.seqLastw) { s with seqVmatch := true, seqState := .done, seqCode := .ok }
  else
    { s with seqVmatch := false, seqState := .done, seqCode := .ok }

/-- A step of SEQ that needs no link transaction; nothing in a state that has none (R89, R94, R98, R100). -/
def seqLocalStep (s : State) : State :=
  match s.seqState with
  | .idle => s
  | .sendingImage .check => seqCheck s
  | .sendingImage .bulk => s
  | .awaitingAck .probeW => s
  | .awaitingAck .probeR => s
  | .awaitingAck .wait => seqWaitExpiry s
  | .announcingSize => s
  | .streaming => if wordsLeft s then s else seqVerify s
  | .done => s
  | .failed => s

/-- What a step of SEQ does once its transaction has been answered and does not end the session. -/
def seqLinkStep (r : LinkAnswer) (s : State) : State :=
  match s.seqState with
  | .idle => s
  | .sendingImage .check => s
  | .sendingImage .bulk => seqBulk s
  | .awaitingAck .probeW => seqProbeWrite s
  | .awaitingAck .probeR => seqProbeRead r s
  | .awaitingAck .wait => s
  | .announcingSize => seqAnnounce s
  | .streaming => if wordsLeft s then seqStreamed (payloadWord s) s else s
  | .done => s
  | .failed => s

/-- Whether an answer to a transaction ends the session, and with which code (R99). The status of SEND_BULK
never does (R90). -/
def requestAbort (p : XportErrPolicy) : LinkRequest → LinkAnswer → Option Word
  | .sendBulk _ _, _ => none
  | .writeWord _, r => abortCode p r
  | .readWord, r => abortCode p r

/-- A step of SEQ that performs the transaction `q` and is answered `r`: the LINK event, then the abort of
R99 or the step's own effect. -/
def seqTransact (q : LinkRequest) (r : LinkAnswer) (s : State) : State :=
  match requestAbort s.params.xportErrPolicy q r with
  | some code => transportAbort code (emit (q.event r) s)
  | none => seqLinkStep r (emit (q.event r) s)

/-- A turn of SEQ (R86). A step that needs a transaction is enabled only while the link agent answers; where
no step is enabled, nothing changes (60_exceptions.md R105; 93_implementation_defined.md I10). -/
def seqTurn (answer : Option LinkAnswer) (s : State) : State :=
  match linkRequest s with
  | none => seqLocalStep s
  | some q =>
    match answer with
    | none => s
    | some r => seqTransact q r s

/-- A tick (R93): it counts the wait down, and has no effect otherwise. -/
def tickTurn (s : State) : State :=
  if s.seqState = .awaitingAck .wait ∧ 0 < s.seqWait.toNat then
    { s with seqWait := s.seqWait - 1#32 }
  else s

end Sys2Proof.Machine
end

