-- ==== Sys2Proof/Machine/Dispatch.lean ====
section
/-! DEFINITION. One arm per command: the meaning of a decoded command (30_encoding.md R58, R63). -/

namespace Sys2Proof.Machine

/-- The command `i` executed in the state `s` (30_encoding.md R63, its last line). -/
def exec (i : Instr) (s : State) : Host.Outcome State Fault Refusal :=
  match i with
  | .crcInit mode => Sys2Proof.Machine.execCrcInit mode s
  | .crcAcc => Sys2Proof.Machine.execCrcAcc s
  | .crcFin => Sys2Proof.Machine.execCrcFin s
  | .ciphInit mode => Sys2Proof.Machine.execCiphInit mode s
  | .ciphXform => Sys2Proof.Machine.execCiphXform s
  | .seqStart => Sys2Proof.Machine.execSeqStart s

end Sys2Proof.Machine
end

