-- ==== Sys2Proof/Machine/Bus.lean ====
section
/-! DEFINITION. The host register window: the register map (10_state.md section 8), reads and writes
(20_memory.md R35 to R38), the command register (30_encoding.md R63), the lines of a host program and the
pseudo-instructions (R64 to R66). -/

namespace Sys2Proof.Machine

/-- The offset of a register in the host window (10_state.md R10 to R30). -/
def regOffset : Reg → Nat
  | .cmd => 0x00
  | .opa => 0x04
  | .opb => 0x08
  | .result => 0x0C
  | .cmdstat => 0x10
  | .cksAcc => 0x14
  | .cksPoly => 0x18
  | .cksHh => 0x1C
  | .cksHl => 0x20
  | .cksCtl => 0x24
  | .kscSeed => 0x28
  | .kscKey => 0x2C
  | .kscCtl => 0x30
  | .seqStat => 0x34
  | .seqLen => 0x38
  | .seqBase => 0x3C
  | .seqAtt => 0x40
  | .seqWcnt => 0x44
  | .seqLastw => 0x48
  | .seqTerr => 0x4C
  | .seqWait => 0x50

/-- Every register of the map. -/
def allRegs : List Reg :=
  [.cmd, .opa, .opb, .result, .cmdstat, .cksAcc, .cksPoly, .cksHh, .cksHl, .cksCtl, .kscSeed, .kscKey,
    .kscCtl, .seqStat, .seqLen, .seqBase, .seqAtt, .seqWcnt, .seqLastw, .seqTerr, .seqWait]

/-- The register at an offset; `none` at a reserved one (20_memory.md R38). -/
def regAt (offset : Nat) : Option Reg :=
  allRegs.find? (fun r => regOffset r == offset)

/-- The value a register reads as, reserved bits 0 and CMD 0 (20_memory.md R36; 10_state.md R10 to R30). -/
def readReg (r : Reg) (s : State) : Word :=
  match r with
  | .cmd => 0#32
  | .opa => s.opa
  | .opb => s.opb
  | .result => s.result
  | .cmdstat => cmdstatWord s
  | .cksAcc => s.cksAcc.setWidth 32
  | .cksPoly => s.cksPoly.setWidth 32
  | .cksHh => s.cksHh
  | .cksHl => s.cksHl
  | .cksCtl => ctlWord s.cksV s.cksMode
  | .kscSeed => s.kscSeed
  | .kscKey => s.kscKey
  | .kscCtl => ctlWord s.kscV s.kscMode
  | .seqStat => seqStatWord s
  | .seqLen => s.seqLen
  | .seqBase => s.seqBase
  | .seqAtt => s.seqAtt.setWidth 32
  | .seqWcnt => s.seqWcnt
  | .seqLastw => s.seqLastw
  | .seqTerr => s.seqTerr
  | .seqWait => s.seqWait

/-- The value at an offset of the window; a reserved offset reads 0 (20_memory.md R38). -/
def readOffset (offset : Nat) (s : State) : Word :=
  match regAt offset with
  | some r => readReg r s
  | none => 0#32

/-- A write of `w` to CMD (30_encoding.md R63): the word is decoded, and the command executes or fails.
CMDSTAT.OP records the word's bits 3:0 either way (10_state.md R14). -/
def writeCommand (w : Word) (s : State) : Host.Outcome State Fault Refusal :=
  match decodeCommand w with
  | .ok i => exec i s
  | .error e => .next (failCommand (fieldsOfWord w).op e s)

/-- A host write of `v` at an offset (20_memory.md R37): CMD, OPA and OPB take it, every other offset ignores
it. -/
def writeOffset (offset : Nat) (v : Word) (s : State) : Host.Outcome State Fault Refusal :=
  match regAt offset with
  | some .cmd => writeCommand v s
  | some .opa => .next { s with opa := v }
  | some .opb => .next { s with opb := v }
  | _ => .next s

/-- Why an access is outside the interface contract, if it is (20_memory.md R35). The order of the three
names is a DESIGN CHOICE, log 11. -/
def accessRefusal (w : Width) (offset : Nat) : Option Refusal :=
  if w ≠ .word then some .narrowHostAccess
  else if 0x100 ≤ offset then some .hostAccessOutsideWindow
  else if offset % 4 ≠ 0 then some .misalignedHostAccess
  else none

/-- The host's record of a read's value. -/
def logRead (offset : Nat) (v : Word) (s : State) : State :=
  { s with hostReads := s.hostReads ++ [{ offset := offset, value := v }] }

/-- The host is done with its present line. -/
def popLine (s : State) : State :=
  { s with hostProgram := s.hostProgram.tail }

/-- A host read of a word at an offset (20_memory.md R36). -/
def readAccess (offset : Nat) (s : State) : State :=
  logRead offset (readOffset offset s) s

/-- One bus operation (20_memory.md R35 to R37). -/
def busAccess (op : BusOp) (s : State) : Host.Outcome State Fault Refusal :=
  match op with
  | .write w o v =>
    match accessRefusal w o with
    | some r => .refused r
    | none => writeOffset o v s
  | .read w o =>
    match accessRefusal w o with
    | some r => .refused r
    | none => .next (readAccess o s)

/-- A turn of the host: the next line of its program takes its next bus access (10_state.md R9; 30_encoding.md
R64). A POLL stays the next line until the value it reads meets its condition. A host with no line left does
nothing. -/
def hostTurn (s : State) : Host.Outcome State Fault Refusal :=
  match s.hostProgram with
  | [] => .next s
  | .bus op :: _ => busAccess op (popLine s)
  | .poll o mask value :: _ =>
    match accessRefusal .word o with
    | some r => .refused r
    | none =>
      if readOffset o s &&& mask = value then .next (readAccess o (popLine s))
      else .next (readAccess o s)

/-- `WR <reg>, <imm32>` (30_encoding.md R64). -/
def lineWR (r : Reg) (v : Word) : HostLine :=
  .bus (.write .word (regOffset r) v)

/-- `RD <reg>` (R64). -/
def lineRD (r : Reg) : HostLine :=
  .bus (.read .word (regOffset r))

/-- `POLL <reg>, <mask>, <value>` (R64). -/
def linePOLL (r : Reg) (mask value : Word) : HostLine :=
  .poll (regOffset r) mask value

/-- The bus triple of a bus operation (30_encoding.md R65). -/
def busTriple : BusOp → BusTriple
  | .write _ o v => { dir := .W, offset := o, data := some v }
  | .read _ o => { dir := .R, offset := o, data := none }

/-- The bus triple a host line issues, once for WR and RD, each time round for POLL (R64, R65). How often a POLL
goes round, a line does not say: see `encodeProgram`. -/
def lineTriple : HostLine → BusTriple
  | .bus op => busTriple op
  | .poll o _ _ => { dir := .R, offset := o, data := none }

/-- The encoding of a host program: its triples in program order (R65). DESIGN CHOICE, log 21: a POLL line counts
as one triple, where R64 and R65 give it no fixed number; a run issues one or more, as the interleaving has it. -/
def encodeProgram (p : List HostLine) : List BusTriple :=
  p.map lineTriple

/-- The expansion of a pseudo-instruction (R66). -/
def expandPseudo : Pseudo → List HostLine
  | .crcInit hh hl m => [lineWR .opa hh, lineWR .opb hl, lineWR .cmd (0x01#32 ||| (m.bit.setWidth 32 <<< 4))]
  | .crcAcc w => [lineWR .opa w, lineWR .cmd 0x02#32]
  | .crcFin w => [lineWR .opa w, lineWR .cmd 0x03#32]
  | .ciphInit seed m => [lineWR .opa seed, lineWR .cmd (0x04#32 ||| (m.bit.setWidth 32 <<< 4))]
  | .ciphXform d p => [lineWR .opa d, lineWR .opb p, lineWR .cmd 0x05#32]
  | .seqStart len base => [lineWR .opa len, lineWR .opb base, lineWR .cmd 0x06#32]
  | .seqWaitIdle => [linePOLL .seqStat 0x00001000#32 0x00000000#32]

/-- `s` with the write of the command word `w`, its bits from `nbits` up 0, as the host's next line, and a
host turn as the next turn (log 2). -/
def placeCommand (s : State) (nbits w : Nat) : State :=
  { s with
    hostProgram := lineWR .cmd (BitVec.ofNat 32 (w % 2 ^ nbits)) :: s.hostProgram
    schedule := .host :: s.schedule }

end Sys2Proof.Machine
end

