-- ==== Sys2Proof/Machine/Agents.lean ====
section
/-! DEFINITION. The interleaving: one turn of one agent (10_state.md R9; 20_memory.md R52), and reset
(70_reset_and_hazards.md R120). -/

namespace Sys2Proof.Machine

/-- A reset (R120): every register takes its reset value in one step. The event trace is not erased, the
parameters are unaffected, and what lies outside MBCORE (the link mode, the payload, the host, the turns to
come) is not MBCORE's to reset: DEDUCED, log 13. -/
def resetTurn (s : State) : State :=
  { State.reset with
    trace := s.trace
    params := s.params
    linkMode := s.linkMode
    payload := s.payload
    hostProgram := s.hostProgram
    hostReads := s.hostReads
    schedule := s.schedule }

/-- The link agent drives `link_mode` (60_exceptions.md R107). -/
def driveLinkMode (m : LinkMode) (s : State) : State :=
  { s with linkMode := m }

/-- Another agent writes a byte of the payload space (20_memory.md R44). -/
def writePayload (a : Word) (b : Byte) (s : State) : State :=
  { s with payload := Memory.writeByte s.payload a.toNat b }

/-- One turn (10_state.md R9). -/
def runTurn (t : Turn) (s : State) : Host.Outcome State Fault Refusal :=
  match t with
  | .host => hostTurn s
  | .seq answer => .next (seqTurn answer s)
  | .tick => .next (tickTurn s)
  | .linkMode m => .next (driveLinkMode m s)
  | .payloadWrite a b => .next (writePayload a b s)
  | .reset => .next (resetTurn s)

/-- The next turn is taken. -/
def popTurn (s : State) : State :=
  { s with schedule := s.schedule.tail }

/-- One step of the interleaving (20_memory.md R52): the next turn of the schedule. Where no turn is left,
no agent moves (log 1). -/
def machineStep (s : State) : Host.Outcome State Fault Refusal :=
  match s.schedule with
  | [] => .next s
  | t :: _ => runTurn t (popTurn s)

end Sys2Proof.Machine
end

