-- ==== Sys2Proof/Machine/Step.lean ====
section
/-! DEFINITION. One step of the machine, and where the next command stands. -/

namespace Sys2Proof.Machine

/-- One step: one turn of one agent (20_memory.md R52). -/
def step (s : State) : Host.Outcome State Fault Refusal :=
  machineStep s

/-- `s` with the command word `w` where the very next step takes it: the host writes it to CMD. -/
def State.withFetchWord (s : State) (nbits w : Nat) : State :=
  placeCommand s nbits w

end Sys2Proof.Machine
end

