-- ==== Sys2Proof/Safety.lean ====
section
/-! DEFINITION. The terms the statements use: the machine's invariant, the decode function of
30_encoding.md R63 as the rule writes it, what an agent may touch, the edges of SEQ's state machine
(42_sequencer.md R86), and the bookkeeping of whole sessions (R101 to R103) and cipher streams (R82). -/

namespace Sys2Proof.Safety

open Sys2Proof.Machine

/-- The outcome of `k` steps of the machine, stopping at the first that gives no next state. -/
def runSteps : Nat → State → Host.Outcome State Fault Refusal
  | 0, s => .next s
  | k + 1, s =>
    match step s with
    | .next t => runSteps k t
    | .fault r => .fault r
    | .refused r => .refused r

/-- The decode function of 30_encoding.md R63, transcribed over the bits of the word and the state: the
code a write of `w` to CMD reports, `ok` where the command executes. -/
def reportedErr (w : Word) (s : State) : CmdErr :=
  let op := w.toNat % 16
  let mode := w.getLsbD 4
  if ¬(1 ≤ op ∧ op ≤ 6) then .illegalOp
  else if w >>> 5 ≠ 0#32 then .rsvdBits
  else if mode = true ∧ ¬(op = 1 ∨ op = 4) then .rsvdBits
  else if (op = 2 ∨ op = 3) ∧ s.cksV = false then .notInit
  else if op = 5 ∧ s.kscV = false then .notInit
  else if op = 6 ∧ s.seqState.busy = true then .seqBusy
  else .ok

/-- The two states agree on every register of SEQ (10_state.md R23 to R30). -/
def SameSeq (s t : State) : Prop :=
  t.seqState = s.seqState ∧ t.seqCode = s.seqCode ∧ t.seqVmatch = s.seqVmatch ∧ t.seqLen = s.seqLen ∧
    t.seqBase = s.seqBase ∧ t.seqAtt = s.seqAtt ∧ t.seqWcnt = s.seqWcnt ∧ t.seqLastw = s.seqLastw ∧
    t.seqTerr = s.seqTerr ∧ t.seqWait = s.seqWait

/-- `s` with every register that host commands serve taken from `c`: OPA, OPB, RESULT, CMDSTAT, CKS and KSC
(10_state.md R10, R11, R14 to R22). -/
def withCommandSide (c s : State) : State :=
  { s with
    opa := c.opa, opb := c.opb, result := c.result, cmdErr := c.cmdErr, cmdOp := c.cmdOp
    cksAcc := c.cksAcc, cksPoly := c.cksPoly, cksHh := c.cksHh, cksHl := c.cksHl, cksV := c.cksV
    cksMode := c.cksMode, kscSeed := c.kscSeed, kscKey := c.kscKey, kscV := c.kscV, kscMode := c.kscMode }

/-- The edges of SEQ's own steps in the table of 42_sequencer.md R86. -/
def seqEdge (src dst : SeqState) : Bool :=
  match src, dst with
  | .sendingImage .check, .failed => true
  | .sendingImage .check, .sendingImage .bulk => true
  | .sendingImage .bulk, .awaitingAck .probeW => true
  | .awaitingAck .probeW, .awaitingAck .probeR => true
  | .awaitingAck .probeR, .announcingSize => true
  | .awaitingAck .probeR, .awaitingAck .wait => true
  | .awaitingAck .wait, .awaitingAck .probeW => true
  | .awaitingAck .wait, .failed => true
  | .announcingSize, .streaming => true
  | .streaming, .done => true
  | .awaitingAck .probeW, .failed => true
  | .awaitingAck .probeR, .failed => true
  | .announcingSize, .failed => true
  | .streaming, .failed => true
  | _, _ => false

/-- The number of payload words a session sends, `ceil(SEQ_LEN / 4)` (10_state.md R27; 42_sequencer.md R97). -/
def wordsTotal (s : State) : Nat :=
  (s.seqLen.toNat + 3) / 4

/-- What SEQ_STAT.CODE may be in each state of SEQ (60_exceptions.md R111; 42_sequencer.md R100). -/
def codeFits : SeqState → SeqCode → Bool
  | .done, c => decide (c = .ok)
  | .failed, c => decide (c = .precondition ∨ c = .timeout ∨ c = .transport)
  | _, c => decide (c = .none)

/-- How many attempts can have been completed in each state of SEQ (10_state.md R26; 42_sequencer.md R92,
R94). -/
def attFits : SeqState → Nat → Bool
  | .idle, n => decide (n = 0)
  | .sendingImage _, n => decide (n = 0)
  | .awaitingAck .probeW, n => decide (n < 16)
  | .awaitingAck .probeR, n => decide (n < 16)
  | .awaitingAck .wait, n => decide (1 ≤ n ∧ n ≤ 16)
  | .announcingSize, n => decide (1 ≤ n ∧ n ≤ 16)
  | .streaming, n => decide (1 ≤ n ∧ n ≤ 16)
  | .done, n => decide (1 ≤ n ∧ n ≤ 16)
  | .failed, n => decide (n ≤ 16)

/-- Whether SEQ can have sent a payload word in this state (42_sequencer.md R88, R96). -/
def mayHaveSent : SeqState → Bool
  | .streaming => true
  | .done => true
  | .failed => true
  | _ => false

/-- What the registers of CKS hold (10_state.md R15 to R19). -/
structure CksInvariant (s : State) : Prop where
  /-- Before the first CRC.INIT every CKS register is at its reset value (70_reset_and_hazards.md R121). -/
  fresh : s.cksV = false →
    s.cksAcc = 0#16 ∧ s.cksPoly = 0#16 ∧ s.cksHh = 0#32 ∧ s.cksHl = 0#32 ∧ s.cksMode = .singleHost
  /-- After it, CKS_POLY is the polynomial of CKS_CTL.MODE (R16, R19). -/
  poly : s.cksV = true → s.cksPoly = cksPolyOf s.cksMode

/-- What the registers of KSC hold (10_state.md R20 to R22). -/
structure KscInvariant (s : State) : Prop where
  /-- Before the first CIPH.INIT every KSC register is at its reset value (70_reset_and_hazards.md R121). -/
  fresh : s.kscV = false → s.kscSeed = 0#32 ∧ s.kscKey = 0#32 ∧ s.kscMode = .singleHost
  /-- After it, KSC_KEY is the key of KSC_CTL.MODE (R21, R22). -/
  key : s.kscV = true → s.kscKey = kscKeyOf s.params s.kscMode

/-- What the registers of SEQ hold (10_state.md R23 to R30). -/
structure SeqInvariant (s : State) : Prop where
  /-- SEQ is IDLE only before the first session: its session registers are at their reset values
  (70_reset_and_hazards.md R120). -/
  idle : s.seqState = .idle → s.seqLen = 0#32 ∧ s.seqBase = 0#32
  /-- CODE fits STATE (60_exceptions.md R111). -/
  code : codeFits s.seqState s.seqCode = true
  /-- SEQ_ATT fits STATE (R26). -/
  att : attFits s.seqState s.seqAtt.toNat = true
  /-- A timed-out session made all 16 attempts (42_sequencer.md R94, R101). -/
  timeout : s.seqCode = .timeout → s.seqAtt = 16#5
  /-- A session that failed its precondition made none (42_sequencer.md R89). -/
  precondition : s.seqCode = .precondition → s.seqAtt = 0#5 ∧ s.seqWcnt = 0#32
  /-- SEQ_WCNT is at most the number of words of the session (R27). -/
  wcnt : s.seqWcnt.toNat ≤ wordsTotal s
  /-- No word is sent before STREAMING. -/
  unsent : mayHaveSent s.seqState = false → s.seqWcnt = 0#32
  /-- A session that is DONE has sent all its words (42_sequencer.md R98). -/
  complete : s.seqState = .done → s.seqWcnt.toNat = wordsTotal s
  /-- SEQ_LASTW is 0 while no word has been sent (R28). -/
  lastw : s.seqWcnt = 0#32 → s.seqLastw = 0#32
  /-- VMATCH is 1 only when the final verification matched (R23). -/
  vmatch : s.seqVmatch = true → s.seqState = .done ∧ verifyMatch s = true
  /-- SEQ_TERR is 0 unless CODE = TRANSPORT (R29). -/
  terr : s.seqCode ≠ .transport → s.seqTerr = 0#32
  /-- CODE = TRANSPORT only under policy ABORT (60_exceptions.md R111). -/
  transport : s.seqCode = .transport → s.params.xportErrPolicy = .abort
  /-- SEQ_WAIT is 0 when no wait is running (R30). -/
  wait : s.seqState ≠ .awaitingAck .wait → s.seqWait = 0#32

/-- The invariant of the machine: what the register descriptions of 10_state.md say each register holds. -/
structure Invariant (s : State) : Prop where
  /-- The payload is in canonical form. -/
  payload : Memory.wf s.payload
  /-- The parameters are a legal choice (00_scope.md R5, R7). -/
  params : s.params.wellFormed = true
  cks : CksInvariant s
  ksc : KscInvariant s
  seq : SeqInvariant s

/-- Whether a turn is an enabled step of SEQ, or a tick that changes state (42_sequencer.md R86, R93). -/
def effective (t : Turn) (s : State) : Bool :=
  match t with
  | .seq answer =>
    match linkRequest s with
    | some _ => answer.isSome
    | none =>
      match s.seqState with
      | .sendingImage .check => true
      | .awaitingAck .wait => decide (s.seqWait = 0#32)
      | .streaming => true
      | _ => false
  | .tick => decide (s.seqState = .awaitingAck .wait ∧ 0 < s.seqWait.toNat)
  | _ => false

/-- How many of the next `k` turns are SEQ or tick steps of the session that is running, up to its end. -/
def sessionSteps : Nat → State → Nat
  | 0, _ => 0
  | k + 1, s =>
    if s.seqState.busy = true then
      match s.schedule with
      | [] => 0
      | t :: _ =>
        (if effective t s = true then 1 else 0) +
          (match step s with
           | .next s' => sessionSteps k s'
           | .fault _ => 0
           | .refused _ => 0)
    else 0

/-- The bound of 42_sequencer.md R103 on the SEQ and tick steps of a session. -/
def sessionBound (s : State) : Nat :=
  2 + 16 * 2 + 16 * (s.params.ackWaitTicks + 1) + 1 + wordsTotal s + 1

/-- One handshake attempt that does not match, as turns: the probe write answered OK, the read-back answered
OK with `p.2`, the ticks of the wait, and its expiry (42_sequencer.md R91 to R94). -/
def missTurns (ticks : Nat) (p : Word × Word) : List Turn :=
  [.seq (some (.ok p.1)), .seq (some (.ok p.2))] ++ List.replicate ticks .tick ++ [.seq none]

/-- The LINK events of one attempt (42_sequencer.md R102). -/
def attemptEvents (v : Word) : List Event :=
  [.linkWriteWord 0xFA57B007#32, .linkReadWord (.ok v)]

/-- Payload word `n` of a session: the four bytes from `SEQ_BASE + 4n`, little-endian (42_sequencer.md R96,
R102). -/
def sessionWord (s : State) (n : Nat) : Word :=
  let b := fun k => memRead8 s (s.seqBase + BitVec.ofNat 32 (4 * n + k))
  (b 0).setWidth 32 ||| ((b 1).setWidth 32 <<< 8) ||| ((b 2).setWidth 32 <<< 16) |||
    ((b 3).setWidth 32 <<< 24)

/-- The events of payload word `n` (42_sequencer.md R96). -/
def wordEvents (s : State) (n : Nat) : List Event :=
  [.linkWriteWord (sessionWord s n), .progress (4 * (n + 1)) s.seqLen (sessionWord s n)]

/-- The results of CIPH.XFORM commands issued one after another, each with its data and position in OPA and
OPB, and the state after the last (41_cipher.md R82). -/
def xformStream : List (Word × Word) → State → Option (List Word × State)
  | [], s => some ([], s)
  | (d, p) :: rest, s =>
    match exec .ciphXform { s with opa := d, opb := p } with
    | .next t =>
      match xformStream rest t with
      | some (es, u) => some (t.result :: es, u)
      | none => none
    | .fault _ => none
    | .refused _ => none

end Sys2Proof.Safety
end

