-- ==== Sys2Proof/Certificates/Slice0/Obligations.lean ====
section
/-! DEFINITION. The statements about MBCORE for the provers, by the spec's files: encoding (30), the host
window (20, 10), CKS (40), KSC (41), SEQ (42), errors and link (60), reset (70), and the invariant. Constants
of the spec are written out as numbers, not as the model's names for them. -/

open Sys2Proof Sys2Proof.Machine Sys2Proof.Safety

/-! ## Encoding (30_encoding.md) -/

/-- 30_encoding.md R57, R58, R60: a word decodes to a command exactly when it is that command's encoding, so
that decoding an encoded command gives it back and no two words stand for one command. -/
def Obligations.DecodeEncodeAgree : Prop :=
  ∀ (i : Instr) (w : Word), decodeCommand w = .ok i ↔ w = encodeCommand i

/-- 30_encoding.md R61, R62: a word is rejected with ILLEGAL_OP exactly when its OP is 0 or 7 to 15, and with
RSVD_BITS exactly when its OP is listed and RSV is not 0 or MODE is 1 on a command without a mode; it decodes
exactly when its fields are well formed. -/
def Obligations.DecodeRejectsExactly : Prop :=
  ∀ w : Word,
    (decodeCommand w = .error .illegalOp ↔ (w.toNat % 16 = 0 ∨ 7 ≤ w.toNat % 16)) ∧
    (decodeCommand w = .error .rsvdBits ↔
      ((1 ≤ w.toNat % 16 ∧ w.toNat % 16 ≤ 6) ∧
        (w.toNat / 32 ≠ 0 ∨ (w.toNat / 16 % 2 = 1 ∧ w.toNat % 16 ≠ 1 ∧ w.toNat % 16 ≠ 4)))) ∧
    ((∃ i, decodeCommand w = .ok i) ↔ (fieldsOfWord w).wellFormed = true)

/-- Words written out from the table of 30_encoding.md R63, one of each family. -/
def Obligations.DecodeSampleWords : Prop :=
  decodeCommand 0x00000011#32 = .ok (.crcInit .peerToPeer) ∧
  decodeCommand 0x00000001#32 = .ok (.crcInit .singleHost) ∧
  decodeCommand 0x00000003#32 = .ok .crcFin ∧
  decodeCommand 0x00000014#32 = .ok (.ciphInit .peerToPeer) ∧
  decodeCommand 0x00000005#32 = .ok .ciphXform ∧
  decodeCommand 0x00000006#32 = .ok .seqStart ∧
  decodeCommand 0x00000022#32 = .error .rsvdBits ∧
  decodeCommand 0xFFFFFFFF#32 = .error .illegalOp

/-- 30_encoding.md R63: a write of any word to CMD has the outcome the rule's decode function gives it: the
code it reports, OP = bits 3:0, nothing else changed where it fails, and the command whose encoding the word
is executed where it does not. -/
def Obligations.CommandWriteFollowsDecode : Prop :=
  ∀ (w : Word) (s : State), ∃ t, writeCommand w s = .next t ∧
    t.cmdErr = reportedErr w s ∧
    t.cmdOp = w.extractLsb' 0 4 ∧
    (reportedErr w s ≠ .ok →
      t = { s with cmdErr := reportedErr w s, cmdOp := w.extractLsb' 0 4 }) ∧
    (reportedErr w s = .ok → ∃ i, w = encodeCommand i ∧ exec i s = .next t)

/-- A step runs the decoded command: where the host's turn comes and its next line writes a word to CMD that
decodes to `i`, the step is `exec i` in the state in which that turn and that line are taken, and
`withFetchWord` places exactly such a turn and line.
The turn and the line are the model's own (logs 1 and 2). -/
def Obligations.StepRunsDecodedCommand : Prop :=
  (∀ (s : State) (w : Word) (i : Instr) (turns : List Turn) (lines : List HostLine),
    s.schedule = .host :: turns →
    s.hostProgram = .bus (.write .word 0x00 w) :: lines →
    decodeCommand w = .ok i →
    step s = exec i { s with schedule := turns, hostProgram := lines }) ∧
  (∀ (s : State) (w : Nat) (i : Instr),
    decodeTableWord 32 w = some i → step (s.withFetchWord 32 w) = exec i s)

/-- 60_exceptions.md R109: a command that fails, whether its word is rejected or its own check is, changes
CMDSTAT and nothing else. -/
def Obligations.FailedCommandChangesOnlyCmdstat : Prop :=
  ∀ (w : Word) (s t : State), writeCommand w s = .next t → t.cmdErr ≠ .ok →
    t = { s with cmdErr := t.cmdErr, cmdOp := t.cmdOp }

/-! ## The host register window (20_memory.md, 10_state.md) -/

/-- 20_memory.md R36: a host read of a word changes nothing but the host's own record of it. It returns the
register's current value, CMD as 0 and reserved bits as 0; two reads with no step between return the same. -/
def Obligations.HostReadReturnsRegister : Prop :=
  ∀ (s : State) (o : Nat) (turns : List Turn) (lines : List HostLine),
    s.schedule = .host :: turns →
    s.hostProgram = .bus (.read .word o) :: lines →
    o < 0x100 → o % 4 = 0 →
    ∃ v, step s = .next { s with
        schedule := turns, hostProgram := lines
        hostReads := s.hostReads ++ [{ offset := o, value := v }] } ∧
      (∀ r : Reg, regOffset r = o → v = readReg r s) ∧
      (o = 0x00 → v = 0#32) ∧ (o = 0x04 → v = s.opa) ∧ (o = 0x08 → v = s.opb) ∧ (o = 0x0C → v = s.result) ∧
      (o = 0x10 → v &&& 0xFFFFFF00#32 = 0#32) ∧
      (o = 0x14 → v = s.cksAcc.setWidth 32) ∧ (o = 0x18 → v = s.cksPoly.setWidth 32) ∧
      (o = 0x1C → v = s.cksHh) ∧ (o = 0x20 → v = s.cksHl) ∧
      (o = 0x24 → v &&& 0xFFFFFFFC#32 = 0#32) ∧
      (o = 0x28 → v = s.kscSeed) ∧ (o = 0x2C → v = s.kscKey) ∧
      (o = 0x30 → v &&& 0xFFFFFFFC#32 = 0#32) ∧
      (o = 0x34 → v &&& 0xFFFFE0E0#32 = 0#32) ∧
      (o = 0x38 → v = s.seqLen) ∧ (o = 0x3C → v = s.seqBase) ∧ (o = 0x40 → v = s.seqAtt.setWidth 32) ∧
      (o = 0x44 → v = s.seqWcnt) ∧ (o = 0x48 → v = s.seqLastw) ∧ (o = 0x4C → v = s.seqTerr) ∧
      (o = 0x50 → v = s.seqWait) ∧ (0x54 ≤ o → v = 0#32) ∧
      (∀ turns' lines', turns = .host :: turns' → lines = .bus (.read .word o) :: lines' →
        ∃ u, runSteps 2 s = .next u ∧
          u.hostReads = s.hostReads ++ [{ offset := o, value := v }, { offset := o, value := v }])

/-- 20_memory.md R37: a host write of a word executes a command at CMD, writes OPA or OPB, and has no effect
at every other offset of the window. -/
def Obligations.HostWriteEffects : Prop :=
  ∀ (s : State) (o : Nat) (v : Word) (turns : List Turn) (lines : List HostLine),
    s.schedule = .host :: turns →
    s.hostProgram = .bus (.write .word o v) :: lines →
    o < 0x100 → o % 4 = 0 →
    step s =
      (if o = 0x00 then writeCommand v { s with schedule := turns, hostProgram := lines }
       else if o = 0x04 then .next { s with schedule := turns, hostProgram := lines, opa := v }
       else if o = 0x08 then .next { s with schedule := turns, hostProgram := lines, opb := v }
       else .next { s with schedule := turns, hostProgram := lines })

/-- 20_memory.md R38: at every offset from 0x54 to 0xFC a read returns 0 and a write has no effect. -/
def Obligations.ReservedOffsetsInert : Prop :=
  ∀ (s : State) (o : Nat) (v : Word) (turns : List Turn) (lines : List HostLine),
    s.schedule = .host :: turns → 0x54 ≤ o → o ≤ 0xFC → o % 4 = 0 →
    (s.hostProgram = .bus (.read .word o) :: lines →
      step s = .next { s with
        schedule := turns, hostProgram := lines
        hostReads := s.hostReads ++ [{ offset := o, value := 0#32 }] }) ∧
    (s.hostProgram = .bus (.write .word o v) :: lines →
      step s = .next { s with schedule := turns, hostProgram := lines })

/-- 20_memory.md R35, 60_exceptions.md R104: the machine never faults, and stops only at a host access that is not
of a word, is misaligned or lies outside the window; it refuses every such access. The refusal is the model's
choice (log 11), and so is that a state with no turn left steps to itself (log 1). -/
def Obligations.OnlyOutsideAccessesRefused : Prop :=
  ∀ s : State,
    ((∃ t, step s = .next t) ∨ (∃ r, step s = .refused r)) ∧
    ((∃ r, step s = .refused r) ↔
      (∃ turns l lines, s.schedule = .host :: turns ∧ s.hostProgram = l :: lines ∧ l.wellFormed = false))

/-- 30_encoding.md R64: POLL reads its register at each of the host's turns and is the next line until the
value read, masked, is the one it waits for.
One read per turn is the model's reading (log 14). -/
def Obligations.PollRepeatsUntilMatch : Prop :=
  ∀ (s : State) (r : Reg) (mask value : Word) (turns : List Turn) (lines : List HostLine),
    s.schedule = .host :: turns →
    s.hostProgram = .poll (regOffset r) mask value :: lines →
    (readReg r s &&& mask = value →
      step s = .next { s with
        schedule := turns, hostProgram := lines
        hostReads := s.hostReads ++ [{ offset := regOffset r, value := readReg r s }] }) ∧
    (readReg r s &&& mask ≠ value →
      step s = .next { s with
        schedule := turns
        hostReads := s.hostReads ++ [{ offset := regOffset r, value := readReg r s }] })

/-- 30_encoding.md R66: the lines of each command pseudo-instruction, performed in the host's turns, execute
the command on the operands it names. -/
def Obligations.PseudoInstructionsRunCommands : Prop :=
  ∀ (s : State) (turns : List Turn) (lines : List HostLine) (p : Pseudo),
    s.schedule = List.replicate (expandPseudo p).length .host ++ turns →
    s.hostProgram = expandPseudo p ++ lines →
    (∀ hh hl m, p = .crcInit hh hl m → runSteps (expandPseudo p).length s =
      exec (.crcInit m) { s with schedule := turns, hostProgram := lines, opa := hh, opb := hl }) ∧
    (∀ w, p = .crcAcc w → runSteps (expandPseudo p).length s =
      exec .crcAcc { s with schedule := turns, hostProgram := lines, opa := w }) ∧
    (∀ w, p = .crcFin w → runSteps (expandPseudo p).length s =
      exec .crcFin { s with schedule := turns, hostProgram := lines, opa := w }) ∧
    (∀ seed m, p = .ciphInit seed m → runSteps (expandPseudo p).length s =
      exec (.ciphInit m) { s with schedule := turns, hostProgram := lines, opa := seed }) ∧
    (∀ d q, p = .ciphXform d q → runSteps (expandPseudo p).length s =
      exec .ciphXform { s with schedule := turns, hostProgram := lines, opa := d, opb := q }) ∧
    (∀ len base, p = .seqStart len base → runSteps (expandPseudo p).length s =
      exec .seqStart { s with schedule := turns, hostProgram := lines, opa := len, opb := base })

/-- 10_state.md R14, R19, R22, R23, 60_exceptions.md R108, R111: the fields of the four status registers as
read, each at its place and with its number, reserved bits 0, and BUSY exactly when STATE is 1, 2, 3 or 4. -/
def Obligations.StatusRegisterFields : Prop :=
  ∀ s : State,
    ((readReg .cmdstat s).extractLsb' 0 4 =
      (match s.cmdErr with
       | .ok => 0#4 | .illegalOp => 1#4 | .rsvdBits => 2#4 | .notInit => 3#4 | .seqBusy => 4#4)) ∧
    (readReg .cmdstat s).extractLsb' 4 4 = s.cmdOp ∧
    (readReg .cmdstat s).extractLsb' 8 24 = 0#24 ∧
    (readReg .cksCtl s).getLsbD 0 = s.cksV ∧
    ((readReg .cksCtl s).getLsbD 1 = true ↔ s.cksMode = .peerToPeer) ∧
    (readReg .cksCtl s).extractLsb' 2 30 = 0#30 ∧
    (readReg .kscCtl s).getLsbD 0 = s.kscV ∧
    ((readReg .kscCtl s).getLsbD 1 = true ↔ s.kscMode = .peerToPeer) ∧
    (readReg .kscCtl s).extractLsb' 2 30 = 0#30 ∧
    ((readReg .seqStat s).extractLsb' 0 3 =
      (match s.seqState with
       | .idle => 0#3 | .sendingImage _ => 1#3 | .awaitingAck _ => 2#3 | .announcingSize => 3#3
       | .streaming => 4#3 | .done => 5#3 | .failed => 6#3)) ∧
    ((readReg .seqStat s).extractLsb' 3 2 =
      (match s.seqState with
       | .sendingImage .bulk => 1#2 | .awaitingAck .probeR => 1#2 | .awaitingAck .wait => 2#2 | _ => 0#2)) ∧
    (readReg .seqStat s).extractLsb' 5 3 = 0#3 ∧
    ((readReg .seqStat s).extractLsb' 8 3 =
      (match s.seqCode with
       | .none => 0#3 | .ok => 1#3 | .precondition => 2#3 | .timeout => 3#3 | .transport => 4#3)) ∧
    (readReg .seqStat s).getLsbD 11 = s.seqVmatch ∧
    ((readReg .seqStat s).getLsbD 12 = true ↔
      1 ≤ ((readReg .seqStat s).extractLsb' 0 3).toNat ∧
        ((readReg .seqStat s).extractLsb' 0 3).toNat ≤ 4) ∧
    (readReg .seqStat s).extractLsb' 13 19 = 0#19

/-- 10_state.md R10: OPA and OPB change only when the host writes them, to the value written, or at a reset; no
command writes them. -/
def Obligations.OperandsChangeOnlyByHostWrites : Prop :=
  ∀ (s s' : State) (t : Turn) (turns : List Turn), s.schedule = t :: turns → step s = .next s' →
    (s'.opa = s.opa ∨ t = .reset ∨
      (t = .host ∧ ∃ lines, s.hostProgram = .bus (.write .word 0x04 s'.opa) :: lines)) ∧
    (s'.opb = s.opb ∨ t = .reset ∨
      (t = .host ∧ ∃ lines, s.hostProgram = .bus (.write .word 0x08 s'.opb) :: lines))

/-- 10_state.md R11: RESULT changes only when CRC.ACC, CRC.FIN or CIPH.XFORM succeeds, or at a reset. -/
def Obligations.ResultWrittenOnlyByItsCommands : Prop :=
  ∀ (s s' : State) (t : Turn) (turns : List Turn), s.schedule = t :: turns → step s = .next s' →
    s'.result = s.result ∨ t = .reset ∨
    (t = .host ∧ s'.cmdErr = .ok ∧
      ∃ w lines, s.hostProgram = .bus (.write .word 0x00 w) :: lines ∧
        (w = 0x00000002#32 ∨ w = 0x00000003#32 ∨ w = 0x00000005#32))

/-! ## CKS (40_checksum.md) -/

/-- 40_checksum.md R68: the fold is 32 iterations of the rule's loop body, on the accumulator and the word. -/
def Obligations.CrcFoldIterates32Times : Prop :=
  ∀ (acc poly : Half) (word : Word),
    crcFold acc poly word =
      ((fun aw : Half × Word =>
        ((if ((aw.1.setWidth 32 ^^^ aw.2) &&& 1#32) = 1#32 then (aw.1 >>> 1) ^^^ poly else aw.1 >>> 1),
          aw.2 >>> 1))^[32] (acc, word)).1

/-- 40_checksum.md R71: the fold is linear over GF(2) in accumulator and word together, a bijection in the
accumulator for both polynomials, so that a change of exactly one bit of the word, or another accumulator,
changes its result. It does so for the words of CRC.ACC and the composed word of CRC.FIN, not for CRC.FIN's OPA. -/
def Obligations.CrcFoldLinearBijective : Prop :=
  (∀ (a1 a2 p : Half) (w1 w2 : Word),
    crcFold (a1 ^^^ a2) p (w1 ^^^ w2) = crcFold a1 p w1 ^^^ crcFold a2 p w2) ∧
  (∀ p : Half, crcFold 0#16 p 0#32 = 0#16) ∧
  (∀ p : Half, p = 0xA517#16 ∨ p = 0xC37B#16 →
    (∀ w : Word, Function.Bijective fun a => crcFold a p w) ∧
    (∀ (a : Half) (w : Word) (b : Nat), b < 32 → crcFold a p (w ^^^ (1#32 <<< b)) ≠ crcFold a p w) ∧
    (∀ (a a' : Half) (w : Word), a ≠ a' → crcFold a p w ≠ crcFold a' p w)) ∧
  (∀ (a p : Half) (opa opa' hh hl : Word),
    crcFold a p (crcCompose opa hh hl) = crcFold a p (crcCompose opa' hh hl))

/-- 40_checksum.md R70: the finalize word does not depend on the data word, and depends on headerLow only
through its low byte. -/
def Obligations.CrcComposeClosedForm : Prop :=
  ∀ word hh hl : Word,
    crcCompose word hh hl = (0xFFFF0000#32 ||| ((hl &&& 0xFF#32) <<< 8)) + hh

/-- 40_checksum.md R72: CRC.INIT sets the mode's constants, copies OPA and OPB to the header registers, sets
MODE and V, reports OK and changes nothing else; its words are those of match 0x00000001, mask 0xFFFFFFEF, with
MODE in bit 4. -/
def Obligations.CrcInitCompletes : Prop :=
  (∀ s : State, exec (.crcInit .peerToPeer) s = .next { s with
    cksPoly := 0xA517#16, cksAcc := 0xFFF8#16, cksHh := s.opa, cksHl := s.opb
    cksMode := .peerToPeer, cksV := true, cmdErr := .ok, cmdOp := 0x1#4 }) ∧
  (∀ s : State, exec (.crcInit .singleHost) s = .next { s with
    cksPoly := 0xC37B#16, cksAcc := 0xC387#16, cksHh := s.opa, cksHl := s.opb
    cksMode := .singleHost, cksV := true, cmdErr := .ok, cmdOp := 0x1#4 }) ∧
  (∀ w : Word, w &&& 0xFFFFFFEF#32 = 0x00000001#32 →
    decodeCommand w = .ok (.crcInit (if w.getLsbD 4 then .peerToPeer else .singleHost))) ∧
  (∀ w : Word, w &&& 0xF#32 = 0x1#32 → w &&& 0xFFFFFFEF#32 ≠ 0x00000001#32 →
    decodeCommand w = .error .rsvdBits)

/-- 40_checksum.md R73: CRC.ACC folds OPA into the accumulator, which RESULT shows, and changes nothing else but
CMDSTAT; before any CRC.INIT it fails with NOT_INIT; its word is 0x00000002, and its other words are RSVD_BITS. -/
def Obligations.CrcAccCompletes : Prop :=
  (∀ s : State, s.cksV = true → exec .crcAcc s = .next { s with
    cksAcc := crcFold s.cksAcc s.cksPoly s.opa
    result := (crcFold s.cksAcc s.cksPoly s.opa).setWidth 32
    cmdErr := .ok, cmdOp := 0x2#4 }) ∧
  (∀ s : State, s.cksV = false → exec .crcAcc s = .next { s with cmdErr := .notInit, cmdOp := 0x2#4 }) ∧
  decodeCommand 0x00000002#32 = .ok .crcAcc ∧
  (∀ w : Word, w &&& 0xF#32 = 0x2#32 → w ≠ 0x00000002#32 → decodeCommand w = .error .rsvdBits)

/-- 40_checksum.md R74: CRC.FIN folds the word composed from OPA and the headers into the accumulator, which
RESULT shows, and changes nothing else but CMDSTAT; before any CRC.INIT it fails with NOT_INIT; its word is
0x00000003, and its other words are RSVD_BITS. -/
def Obligations.CrcFinCompletes : Prop :=
  (∀ s : State, s.cksV = true →
    let c := ((((s.opa &&& 0xFF00#32) + s.cksHl) <<< 8) ||| 0xFFFF0000#32) + s.cksHh
    exec .crcFin s = .next { s with
      cksAcc := crcFold s.cksAcc s.cksPoly c
      result := (crcFold s.cksAcc s.cksPoly c).setWidth 32
      cmdErr := .ok, cmdOp := 0x3#4 }) ∧
  (∀ s : State, s.cksV = false → exec .crcFin s = .next { s with cmdErr := .notInit, cmdOp := 0x3#4 }) ∧
  decodeCommand 0x00000003#32 = .ok .crcFin ∧
  (∀ w : Word, w &&& 0xF#32 = 0x3#32 → w ≠ 0x00000003#32 → decodeCommand w = .error .rsvdBits)

/-- 40_checksum.md R75: a change of one bit of CRC.ACC's word, of headerHigh, or of headerLow[7:0] changes the
result; a change of CRC.FIN's word or of headerLow[31:8] does not. -/
def Obligations.ChecksumSingleBitChanges : Prop :=
  ∀ (s t : State), s.cksV = true → (s.cksPoly = 0xA517#16 ∨ s.cksPoly = 0xC37B#16) →
    (∀ b u, b < 32 → exec .crcAcc s = .next t →
      exec .crcAcc { s with opa := s.opa ^^^ (1#32 <<< b) } = .next u → u.result ≠ t.result) ∧
    (∀ b u, b < 32 → exec .crcFin s = .next t →
      exec .crcFin { s with cksHh := s.cksHh ^^^ (1#32 <<< b) } = .next u → u.result ≠ t.result) ∧
    (∀ b u, b < 8 → exec .crcFin s = .next t →
      exec .crcFin { s with cksHl := s.cksHl ^^^ (1#32 <<< b) } = .next u → u.result ≠ t.result) ∧
    (∀ b u, 8 ≤ b → b < 32 → exec .crcFin s = .next t →
      exec .crcFin { s with cksHl := s.cksHl ^^^ (1#32 <<< b) } = .next u → u.result = t.result) ∧
    (∀ w u, exec .crcFin s = .next t →
      exec .crcFin { s with opa := w } = .next u → u.result = t.result)

/-- 40_checksum.md R76: mode separation is not universal: after CRC.INIT 0, 0 in either mode CRC.ACC of 0x50D5
gives 0x7138, and after CRC.INIT 0x000150D5, 0 in either mode CRC.FIN 0 gives 0x7138. -/
def Obligations.ModesCollideSomewhere : Prop :=
  (∀ (m : Mode) (s : State), ∃ t u,
    exec (.crcInit m) { s with opa := 0#32, opb := 0#32 } = .next t ∧
    exec .crcAcc { t with opa := 0x000050D5#32 } = .next u ∧ u.result = 0x00007138#32) ∧
  (∀ (m : Mode) (s : State), ∃ t u,
    exec (.crcInit m) { s with opa := 0x000150D5#32, opb := 0#32 } = .next t ∧
    exec .crcFin { t with opa := 0#32 } = .next u ∧ u.result = 0x00007138#32)

/-! ## KSC (41_cipher.md) -/

/-- 41_cipher.md R79: the offset term is the negation of position + 0x02000000 mod 2^32, as complement plus
one, with the rule's four examples. -/
def Obligations.KscOffsetIsNegation : Prop :=
  (∀ p : Word, kscOffset p = ~~~(p + 0x02000000#32) + 1#32 ∧ kscOffset p = -(p + 0x02000000#32)) ∧
  kscOffset 0#32 = 0xFE000000#32 ∧ kscOffset 0xC0#32 = 0xFDFFFF40#32 ∧
  kscOffset 0xFE000000#32 = 0#32 ∧ kscOffset 0xFFFFFFFF#32 = 0xFE000001#32

/-- 41_cipher.md R80: CIPH.INIT stores OPA as the seed and the mode's key, sets MODE and V, reports OK and
changes nothing else; its words are those of match 0x00000004, mask 0xFFFFFFEF, with MODE in bit 4. -/
def Obligations.CiphInitCompletes : Prop :=
  (∀ s : State, exec (.ciphInit .peerToPeer) s = .next { s with
    kscSeed := s.opa, kscKey := s.params.keyP2P
    kscMode := .peerToPeer, kscV := true, cmdErr := .ok, cmdOp := 0x4#4 }) ∧
  (∀ s : State, exec (.ciphInit .singleHost) s = .next { s with
    kscSeed := s.opa, kscKey := s.params.keySH
    kscMode := .singleHost, kscV := true, cmdErr := .ok, cmdOp := 0x4#4 }) ∧
  (∀ w : Word, w &&& 0xFFFFFFEF#32 = 0x00000004#32 →
    decodeCommand w = .ok (.ciphInit (if w.getLsbD 4 then .peerToPeer else .singleHost))) ∧
  (∀ w : Word, w &&& 0xF#32 = 0x4#32 → w &&& 0xFFFFFFEF#32 ≠ 0x00000004#32 →
    decodeCommand w = .error .rsvdBits)

/-- 41_cipher.md R81: CIPH.XFORM advances the seed and gives advanced seed XOR data XOR offset XOR key; it
changes nothing else but CMDSTAT; before any CIPH.INIT it fails with NOT_INIT; its word is 0x00000005, and its
other words are RSVD_BITS. -/
def Obligations.CiphXformCompletes : Prop :=
  (∀ s : State, s.kscV = true → exec .ciphXform s = .next { s with
    kscSeed := s.kscSeed * 0x6F646573#32 + 1#32
    result := (s.kscSeed * 0x6F646573#32 + 1#32) ^^^ s.opa ^^^ (~~~(s.opb + 0x02000000#32) + 1#32) ^^^
      s.kscKey
    cmdErr := .ok, cmdOp := 0x5#4 }) ∧
  (∀ s : State, s.kscV = false →
    exec .ciphXform s = .next { s with cmdErr := .notInit, cmdOp := 0x5#4 }) ∧
  decodeCommand 0x00000005#32 = .ok .ciphXform ∧
  (∀ w : Word, w &&& 0xF#32 = 0x5#32 → w ≠ 0x00000005#32 → decodeCommand w = .error .rsvdBits)

/-- 41_cipher.md R82: a sequence of CIPH.XFORM commands is undone by a CIPH.INIT with the same seed and mode
and the same positions in the same order, and the i-th mask is the advanced seed XOR the offset XOR the key,
whatever the data. The second run may start from any state of a machine with the same keys. -/
def Obligations.CipherReplayDecodes : Prop :=
  ∀ (m : Mode) (seed : Word) (dps : List (Word × Word)) (s s' : State), s'.params = s.params →
    ∃ t es u t' u',
      exec (.ciphInit m) { s with opa := seed } = .next t ∧
      xformStream dps t = some (es, u) ∧
      es = dps.mapIdx (fun i dp => dp.1 ^^^
        ((fun x : Word => x * 0x6F646573#32 + 1#32)^[i + 1] seed ^^^ (-(dp.2 + 0x02000000#32)) ^^^
          (match m with
           | .peerToPeer => s.params.keyP2P
           | .singleHost => s.params.keySH))) ∧
      exec (.ciphInit m) { s' with opa := seed } = .next t' ∧
      xformStream (es.zip (dps.map Prod.snd)) t' = some (dps.map Prod.fst, u')

/-- 41_cipher.md R83: KSC keeps no record of earlier data or positions: from one KSC state, two streams of
the same length leave the same KSC state, whatever their data and positions. -/
def Obligations.StreamPositionIsOnlyTheSeed : Prop :=
  ∀ (xs ys : List (Word × Word)) (s : State), s.kscV = true → xs.length = ys.length →
    ∃ es fs u v, xformStream xs s = some (es, u) ∧ xformStream ys s = some (fs, v) ∧
      u.kscSeed = v.kscSeed ∧ u.kscKey = s.kscKey ∧ v.kscKey = s.kscKey ∧
      u.kscSeed = (fun x : Word => x * 0x6F646573#32 + 1#32)^[xs.length] s.kscSeed

/-- 41_cipher.md R84: consecutive seeds differ in bit 0 and agree in bit 1, so that consecutive CIPH.XFORM
commands with equal data at positions congruent mod 4 give different results, and the second applied to the
first's result does not give the data back; at other positions they can agree, as the rule's counterexample
shows. -/
def Obligations.ConsecutiveMasksDiffer : Prop :=
  (∀ x : Word, (x ^^^ kscStep x).toNat % 4 = 1) ∧
  (∀ (s t u : State) (d p q : Word), s.kscV = true → p.toNat % 4 = q.toNat % 4 →
    exec .ciphXform { s with opa := d, opb := p } = .next t →
    exec .ciphXform { t with opa := d, opb := q } = .next u → u.result ≠ t.result) ∧
  (∀ (s t u : State) (d p q : Word), s.kscV = true → p.toNat % 4 = q.toNat % 4 →
    exec .ciphXform { s with opa := d, opb := p } = .next t →
    exec .ciphXform { t with opa := t.result, opb := q } = .next u → u.result ≠ d) ∧
  (∀ s : State, s.kscV = true → s.kscSeed = 0x5E959C4E#32 →
    ∃ t u, exec .ciphXform { s with opa := 0#32, opb := 0#32 } = .next t ∧
      exec .ciphXform { t with opa := 0#32, opb := 7#32 } = .next u ∧
      t.result = 0x9A57FD0B#32 ^^^ s.kscKey ∧ u.result = 0x9A57FD0B#32 ^^^ s.kscKey)

/-- 41_cipher.md R85: the same CIPH.XFORM from the same KSC_SEED, KSC_KEY, OPA and OPB gives the same RESULT
and the same next seed, whatever else differs between the two machines. -/
def Obligations.XformDependsOnlyOnCipherState : Prop :=
  ∀ s s' t t' : State, s.kscV = true → s'.kscV = true →
    s'.kscSeed = s.kscSeed → s'.kscKey = s.kscKey → s'.opa = s.opa → s'.opb = s.opb →
    exec .ciphXform s = .next t → exec .ciphXform s' = .next t' →
    t'.result = t.result ∧ t'.kscSeed = t.kscSeed

/-! ## SEQ (42_sequencer.md) -/

/-- 42_sequencer.md R88: SEQ.START from IDLE, DONE or FAILED latches OPA and OPB, clears the session's
registers and enters SENDING_IMAGE/CHECK, with nothing else changed; in any other state it fails with SEQ_BUSY;
its word is 0x00000006, and its other words are RSVD_BITS. -/
def Obligations.SeqStartCompletes : Prop :=
  (∀ s : State, s.seqState = .idle ∨ s.seqState = .done ∨ s.seqState = .failed →
    exec .seqStart s = .next { s with
      seqLen := s.opa, seqBase := s.opb, seqAtt := 0#5, seqWcnt := 0#32, seqLastw := 0#32
      seqTerr := 0#32, seqWait := 0#32, seqCode := .none, seqVmatch := false
      seqState := .sendingImage .check, cmdErr := .ok, cmdOp := 0x6#4 }) ∧
  (∀ s : State, ¬(s.seqState = .idle ∨ s.seqState = .done ∨ s.seqState = .failed) →
    exec .seqStart s = .next { s with cmdErr := .seqBusy, cmdOp := 0x6#4 }) ∧
  decodeCommand 0x00000006#32 = .ok .seqStart ∧
  (∀ w : Word, w &&& 0xF#32 = 0x6#32 → w ≠ 0x00000006#32 → decodeCommand w = .error .rsvdBits)

/-- 42_sequencer.md R89: SENDING_IMAGE/CHECK samples the link mode: PRIMITIVE goes on to BULK, any other fails
with PRECONDITION, and neither emits an event. -/
def Obligations.SeqCheckStep : Prop :=
  ∀ (s : State) (ans : Option LinkAnswer) (turns : List Turn),
    s.schedule = .seq ans :: turns → s.seqState = .sendingImage .check →
    (s.linkMode = .primitive →
      step s = .next { s with schedule := turns, seqState := .sendingImage .bulk }) ∧
    (s.linkMode ≠ .primitive →
      step s = .next { s with schedule := turns, seqState := .failed, seqCode := .precondition })

/-- 42_sequencer.md R90: SENDING_IMAGE/BULK sends the whole image, discards the status whatever it is and
under either policy, and enters AWAITING_ACK/PROBE_W. -/
def Obligations.SeqBulkStep : Prop :=
  ∀ (s : State) (r : LinkAnswer) (turns : List Turn),
    s.schedule = .seq (some r) :: turns → s.seqState = .sendingImage .bulk →
    linkRequest s = some (.sendBulk s.params.image s.params.imageLen) ∧
    step s = .next { s with
      schedule := turns, seqState := .awaitingAck .probeW
      trace := s.trace ++ [.linkSendBulk s.params.imageLen] }

/-- 42_sequencer.md R91: AWAITING_ACK/PROBE_W writes the probe and, unless a transport error aborts, goes on to
PROBE_R. -/
def Obligations.ProbeWriteStep : Prop :=
  ∀ (s : State) (r : LinkAnswer) (turns : List Turn),
    s.schedule = .seq (some r) :: turns → s.seqState = .awaitingAck .probeW →
    linkRequest s = some (.writeWord 0xFA57B007#32) ∧
    ((∀ code d, r = .err code d → s.params.xportErrPolicy = .ignore) →
      step s = .next { s with
        schedule := turns, seqState := .awaitingAck .probeR
        trace := s.trace ++ [.linkWriteWord 0xFA57B007#32] }) ∧
    (∀ code d, r = .err code d → s.params.xportErrPolicy = .abort →
      step s = .next { s with
        schedule := turns, seqTerr := code, seqState := .failed, seqCode := .transport
        trace := s.trace ++ [.linkWriteWord 0xFA57B007#32] })

/-- 42_sequencer.md R92: AWAITING_ACK/PROBE_R reads a word back and, unless a transport error aborts, counts
the attempt and enters ANNOUNCING_SIZE if the word is the probe, or the wait, loaded with P_ACK_WAIT_TICKS, if it
is not. Where the parameter does not fit the 32-bit SEQ_WAIT the value loaded is left free (log 8). -/
def Obligations.ProbeReadStep : Prop :=
  ∀ (s : State) (r : LinkAnswer) (v : Word) (turns : List Turn),
    s.schedule = .seq (some r) :: turns → s.seqState = .awaitingAck .probeR →
    (r = .ok v ∨ ∃ code, r = .err code v ∧ s.params.xportErrPolicy = .ignore) →
    linkRequest s = some .readWord ∧
    (v = 0xFA57B007#32 →
      step s = .next { s with
        schedule := turns, seqAtt := s.seqAtt + 1#5, seqState := .announcingSize
        trace := s.trace ++ [.linkReadWord r] }) ∧
    (v ≠ 0xFA57B007#32 →
      ∃ n : Word, (s.params.ackWaitTicks < 2 ^ 32 → n.toNat = s.params.ackWaitTicks) ∧
        step s = .next { s with
          schedule := turns, seqAtt := s.seqAtt + 1#5, seqState := .awaitingAck .wait, seqWait := n
          trace := s.trace ++ [.linkReadWord r] })

/-- 42_sequencer.md R93: a tick takes 1 from SEQ_WAIT in AWAITING_ACK/WAIT while it is above 0, and has no
effect in every other case. -/
def Obligations.TickCountsTheWait : Prop :=
  ∀ (s : State) (turns : List Turn), s.schedule = .tick :: turns →
    (s.seqState = .awaitingAck .wait → s.seqWait ≠ 0#32 →
      step s = .next { s with schedule := turns, seqWait := s.seqWait - 1#32 }) ∧
    (¬(s.seqState = .awaitingAck .wait ∧ s.seqWait ≠ 0#32) →
      step s = .next { s with schedule := turns })

/-- 42_sequencer.md R94: when the wait has run out, SEQ probes again after fewer than 16 attempts, and fails with
TIMEOUT after 16; while the wait runs, SEQ has no step. -/
def Obligations.WaitExpiryStep : Prop :=
  ∀ (s : State) (ans : Option LinkAnswer) (turns : List Turn),
    s.schedule = .seq ans :: turns → s.seqState = .awaitingAck .wait →
    (s.seqWait = 0#32 → s.seqAtt.toNat < 16 →
      step s = .next { s with schedule := turns, seqState := .awaitingAck .probeW }) ∧
    (s.seqWait = 0#32 → 16 ≤ s.seqAtt.toNat →
      step s = .next { s with schedule := turns, seqState := .failed, seqCode := .timeout }) ∧
    (s.seqWait ≠ 0#32 → step s = .next { s with schedule := turns })

/-- 42_sequencer.md R95: ANNOUNCING_SIZE writes floor(SEQ_LEN / 4) and, unless a transport error aborts, enters
STREAMING. -/
def Obligations.AnnounceSizeStep : Prop :=
  ∀ (s : State) (r : LinkAnswer) (w : Word) (turns : List Turn),
    s.schedule = .seq (some r) :: turns → s.seqState = .announcingSize → w = s.seqLen >>> 2 →
    w.toNat = s.seqLen.toNat / 4 ∧ linkRequest s = some (.writeWord w) ∧
    ((∀ code d, r = .err code d → s.params.xportErrPolicy = .ignore) →
      step s = .next { s with
        schedule := turns, seqState := .streaming, trace := s.trace ++ [.linkWriteWord w] }) ∧
    (∀ code d, r = .err code d → s.params.xportErrPolicy = .abort →
      step s = .next { s with
        schedule := turns, seqTerr := code, seqState := .failed, seqCode := .transport
        trace := s.trace ++ [.linkWriteWord w] })

/-- 42_sequencer.md R96, 20_memory.md R40: STREAMING reads the four bytes from SEQ_BASE + 4 × SEQ_WCNT mod 2^32,
writes the little-endian word and, unless a transport error aborts, records it, counts it and emits PROGRESS.
That the bytes sent in PROGRESS are an unbounded natural number is the model's choice (log 9). -/
def Obligations.StreamWordStep : Prop :=
  ∀ (s : State) (r : LinkAnswer) (w : Word) (b : Nat → Byte) (turns : List Turn),
    s.schedule = .seq (some r) :: turns → s.seqState = .streaming →
    4 * s.seqWcnt.toNat < s.seqLen.toNat →
    (∀ k, b k = Memory.readByte s.payload ((s.seqBase.toNat + 4 * s.seqWcnt.toNat + k) % 2 ^ 32)) →
    w = (b 0).setWidth 32 ||| ((b 1).setWidth 32 <<< 8) ||| ((b 2).setWidth 32 <<< 16) |||
      ((b 3).setWidth 32 <<< 24) →
    linkRequest s = some (.writeWord w) ∧
    ((∀ code d, r = .err code d → s.params.xportErrPolicy = .ignore) →
      step s = .next { s with
        schedule := turns, seqLastw := w, seqWcnt := s.seqWcnt + 1#32
        trace := s.trace ++
          [.linkWriteWord w, .progress (4 * (s.seqWcnt.toNat + 1)) s.seqLen w] }) ∧
    (∀ code d, r = .err code d → s.params.xportErrPolicy = .abort →
      step s = .next { s with
        schedule := turns, seqTerr := code, seqState := .failed, seqCode := .transport
        trace := s.trace ++ [.linkWriteWord w] })

/-- 42_sequencer.md R97: whatever SEQ_LEN is, a stream that starts with no word sent and is answered every time
sends ceil(SEQ_LEN / 4) words and ends in DONE. -/
def Obligations.StreamSendsCeilWords : Prop :=
  ∀ (s : State) (answers : List Word) (turns : List Turn),
    s.seqState = .streaming → s.seqWcnt = 0#32 →
    answers.length = (s.seqLen.toNat + 3) / 4 →
    s.schedule = answers.map (fun a => .seq (some (.ok a))) ++ .seq none :: turns →
    ∃ t, runSteps (answers.length + 1) s = .next t ∧ t.schedule = turns ∧
      t.seqState = .done ∧ t.seqCode = .ok ∧ t.seqWcnt.toNat = (s.seqLen.toNat + 3) / 4

/-- 42_sequencer.md R98: at the end of the stream SEQ compares the last word it sent with the sentinel
0x02000000 + SEQ_LEN - 4, puts the outcome in VMATCH, emits VERIFY_OK only on a match, and ends in DONE with CODE
OK either way; with no word sent VMATCH is 0. -/
def Obligations.VerifyStep : Prop :=
  ∀ (s : State) (ans : Option LinkAnswer) (turns : List Turn),
    s.schedule = .seq ans :: turns → s.seqState = .streaming →
    s.seqLen.toNat ≤ 4 * s.seqWcnt.toNat →
    (s.seqWcnt ≠ 0#32 → s.seqLastw = 0x02000000#32 + s.seqLen - 4#32 →
      step s = .next { s with
        schedule := turns, seqVmatch := true, seqState := .done, seqCode := .ok
        trace := s.trace ++ [.verifyOk s.seqLastw] }) ∧
    (¬(s.seqWcnt ≠ 0#32 ∧ s.seqLastw = 0x02000000#32 + s.seqLen - 4#32) →
      step s = .next { s with
        schedule := turns, seqVmatch := false, seqState := .done, seqCode := .ok })

/-- 42_sequencer.md R99: an ERR answer to a word write or read ends the session with TRANSPORT under ABORT, with
the LINK event emitted and nothing else changed; under IGNORE a write goes on as if answered OK, and a read as if
the word read were the answer's data. The status of SEND_BULK is discarded under both. That the policy
at `State.reset` is ABORT, the default of the OPEN parameter, is the model's choice (log 7). -/
def Obligations.TransportErrorPolicy : Prop :=
  State.reset.params.xportErrPolicy = .abort ∧
  ∀ (s : State) (code d : Word) (turns : List Turn),
    s.schedule = .seq (some (.err code d)) :: turns →
    (∀ w, linkRequest s = some (.writeWord w) → s.params.xportErrPolicy = .abort →
      step s = .next { s with
        schedule := turns, seqTerr := code, seqState := .failed, seqCode := .transport
        trace := s.trace ++ [.linkWriteWord w] }) ∧
    (linkRequest s = some .readWord → s.params.xportErrPolicy = .abort →
      step s = .next { s with
        schedule := turns, seqTerr := code, seqState := .failed, seqCode := .transport
        trace := s.trace ++ [.linkReadWord (.err code d)] }) ∧
    (∀ w v, linkRequest s = some (.writeWord w) → s.params.xportErrPolicy = .ignore →
      step s = step { s with schedule := .seq (some (.ok v)) :: turns }) ∧
    (linkRequest s = some .readWord → s.params.xportErrPolicy = .ignore →
      ∃ t, step { s with schedule := .seq (some (.ok d)) :: turns } = .next t ∧
        step s = .next { t with trace := s.trace ++ [.linkReadWord (.err code d)] }) ∧
    (∀ image len, linkRequest s = some (.sendBulk image len) →
      step s = .next { s with
        schedule := turns, seqState := .awaitingAck .probeW
        trace := s.trace ++ [.linkSendBulk len] })

/-- 42_sequencer.md R100, 70_reset_and_hazards.md R122: in DONE and FAILED, and in IDLE, SEQ takes no step and a
tick has no effect. -/
def Obligations.TerminalStatesHaveNoStep : Prop :=
  ∀ (s : State) (t : Turn) (turns : List Turn),
    s.schedule = t :: turns → (t = .tick ∨ ∃ ans, t = .seq ans) →
    s.seqState = .done ∨ s.seqState = .failed ∨ s.seqState = .idle →
    step s = .next { s with schedule := turns }

/-- 60_exceptions.md R105: a step of SEQ that needs a transaction is not enabled while the link agent does not
answer: SEQ's turn then changes nothing. -/
def Obligations.SeqBlocksWithoutAnswer : Prop :=
  ∀ (s : State) (q : LinkRequest) (turns : List Turn),
    s.schedule = .seq none :: turns → linkRequest s = some q →
    step s = .next { s with schedule := turns }

/-- 42_sequencer.md R101, first half: a session whose reads never return the probe, every transaction answered
OK, makes exactly 16 pairs of probe write and read and 16 waits, and ends in FAILED with TIMEOUT and
SEQ_ATT = 16.
The wait parameter is taken below 2^32 (log 8). -/
def Obligations.RetriesEndAfterSixteen : Prop :=
  ∀ (s : State) (reads : List (Word × Word)) (turns : List Turn),
    s.seqState = .awaitingAck .probeW → s.seqAtt = 0#5 → s.params.ackWaitTicks < 2 ^ 32 →
    reads.length = 16 → (∀ p ∈ reads, p.2 ≠ 0xFA57B007#32) →
    s.schedule = reads.flatMap (missTurns s.params.ackWaitTicks) ++ turns →
    runSteps (reads.flatMap (missTurns s.params.ackWaitTicks)).length s = .next { s with
      schedule := turns, seqState := .failed, seqCode := .timeout, seqAtt := 16#5, seqWait := 0#32
      trace := s.trace ++ reads.flatMap (fun p => attemptEvents p.2) }

/-- 42_sequencer.md R101, second half: if the k-th read, k at most 16, is the first to return the probe, SEQ
makes exactly k pairs and k - 1 waits and enters ANNOUNCING_SIZE with SEQ_ATT = k.
The wait parameter is taken below 2^32 (log 8). -/
def Obligations.EchoStopsProbing : Prop :=
  ∀ (s : State) (reads : List (Word × Word)) (a : Word) (turns : List Turn),
    s.seqState = .awaitingAck .probeW → s.seqAtt = 0#5 → s.seqWait = 0#32 →
    s.params.ackWaitTicks < 2 ^ 32 → reads.length < 16 → (∀ p ∈ reads, p.2 ≠ 0xFA57B007#32) →
    s.schedule = reads.flatMap (missTurns s.params.ackWaitTicks) ++
      [.seq (some (.ok a)), .seq (some (.ok 0xFA57B007#32))] ++ turns →
    runSteps ((reads.flatMap (missTurns s.params.ackWaitTicks)).length + 2) s = .next { s with
      schedule := turns, seqState := .announcingSize, seqAtt := BitVec.ofNat 5 (reads.length + 1)
      trace := s.trace ++ reads.flatMap (fun p => attemptEvents p.2) ++ attemptEvents 0xFA57B007#32 }

/-- 42_sequencer.md R102: the events of a successful session from SEQ.START on: the image, the attempts, the
announced count, and each payload word with its PROGRESS, then VERIFY_OK if the last word is the sentinel. The
session ends in DONE with SEQ_WCNT = W. The wait parameter is taken below 2^32 (log 8), and the bytes sent in
PROGRESS are an unbounded natural number by the model's choice (log 9). -/
def Obligations.SuccessfulSessionTrace : Prop :=
  ∀ (s : State) (reads : List (Word × Word)) (status : LinkAnswer) (a c : Word) (answers : List Word)
    (turns : List Turn),
    s.seqState.busy = false → s.linkMode = .primitive → s.params.ackWaitTicks < 2 ^ 32 →
    reads.length < 16 → (∀ p ∈ reads, p.2 ≠ 0xFA57B007#32) →
    s.opa.toNat = 4 * answers.length →
    s.schedule = [.seq none, .seq (some status)] ++
      reads.flatMap (missTurns s.params.ackWaitTicks) ++
      [.seq (some (.ok a)), .seq (some (.ok 0xFA57B007#32)), .seq (some (.ok c))] ++
      answers.map (fun x => .seq (some (.ok x))) ++ .seq none :: turns →
    ∃ t u, exec .seqStart s = .next t ∧
      runSteps (6 + (reads.flatMap (missTurns s.params.ackWaitTicks)).length + answers.length) t = .next u ∧
      u.schedule = turns ∧ u.seqState = .done ∧ u.seqCode = .ok ∧
      u.seqAtt.toNat = reads.length + 1 ∧ u.seqWcnt.toNat = answers.length ∧
      u.trace = s.trace ++ [.linkSendBulk s.params.imageLen] ++
        reads.flatMap (fun p => attemptEvents p.2) ++ attemptEvents 0xFA57B007#32 ++
        [.linkWriteWord (BitVec.ofNat 32 answers.length)] ++
        (List.range answers.length).flatMap (wordEvents t) ++
        (if 0 < answers.length ∧ u.seqLastw = 0x02000000#32 + s.opa - 4#32 then [.verifyOk u.seqLastw]
         else [])

/-- 42_sequencer.md R103: a session takes at most 2 + 16·2 + 16·(P_ACK_WAIT_TICKS + 1) + 1 + ceil(SEQ_LEN/4) + 1
SEQ and tick steps, whatever the other agents do meanwhile; and while it runs, either every answer of the link
enables a step of SEQ or a tick counts the wait down. That a session ends follows under fairness, which the
model leaves out (log 17). A wait parameter too large for SEQ_WAIT loads a free value, still below it (log 8). -/
def Obligations.SessionStepBound : Prop :=
  (∀ (s : State) (k : Nat), Invariant s → s.seqState = .sendingImage .check →
    sessionSteps k s ≤ sessionBound s) ∧
  (∀ s : State, s.seqState.busy = true →
    (∀ r, effective (.seq (some r)) s = true) ∨ effective .tick s = true)

/-- 42_sequencer.md R86: the only edges of SEQ's state machine are those of the rule's table: SEQ's own edges at
a turn of SEQ, the start of a session at a turn of the host, and IDLE at a reset. -/
def Obligations.OnlyTableEdges : Prop :=
  ∀ (s s' : State) (t : Turn) (turns : List Turn), s.schedule = t :: turns → step s = .next s' →
    s'.seqState = s.seqState ∨
    ((∃ ans, t = .seq ans) ∧ seqEdge s.seqState s'.seqState = true) ∨
    (t = .host ∧ s.seqState.busy = false ∧ s'.seqState = .sendingImage .check) ∨
    (t = .reset ∧ s'.seqState = .idle)

/-- 60_exceptions.md R113: a turn of the host never changes a register of SEQ, except that a write of SEQ.START's
word to CMD does when SEQ is not busy. -/
def Obligations.HostLeavesSeqAlone : Prop :=
  ∀ (s s' : State) (turns : List Turn), s.schedule = .host :: turns → step s = .next s' →
    SameSeq s s' ∨
    (s.seqState.busy = false ∧ ∃ lines, s.hostProgram = .bus (.write .word 0x00 0x00000006#32) :: lines)

/-- 10_state.md R9: CKS and KSC, and the registers OPA, OPB, RESULT and CMDSTAT, change only at a turn of the host
or a reset. -/
def Obligations.OnlyHostChangesCommandSide : Prop :=
  ∀ (s s' : State) (t : Turn) (turns : List Turn), s.schedule = t :: turns → t ≠ .host → t ≠ .reset →
    step s = .next s' → withCommandSide s s' = s'

/-- 42_sequencer.md R88, 10_state.md R9: SEQ and the timer never read the registers that commands serve: with
any other values in OPA, OPB, CKS and KSC their steps do the same to everything else. -/
def Obligations.SessionIgnoresCommandSide : Prop :=
  ∀ (s c s' : State) (t : Turn) (turns : List Turn), s.schedule = t :: turns →
    (t = .tick ∨ ∃ ans, t = .seq ans) → step s = .next s' →
    step (withCommandSide c s) = .next (withCommandSide c s')

/-- 60_exceptions.md R107: SEQ reads the link mode only in SENDING_IMAGE/CHECK, so that in any other state a
different link mode makes no difference to a step. -/
def Obligations.LinkModeReadOnlyAtCheck : Prop :=
  ∀ (s s' : State) (m : LinkMode) (ans : Option LinkAnswer) (turns : List Turn),
    s.schedule = .seq ans :: turns → s.seqState ≠ .sendingImage .check → step s = .next s' →
    step { s with linkMode := m } = .next { s' with linkMode := m }

/-- 10_state.md R32, 70_reset_and_hazards.md R120: the event trace only ever grows at its end, also over a
reset. -/
def Obligations.TraceIsAppendOnly : Prop :=
  ∀ s s' : State, step s = .next s' → ∃ es, s'.trace = s.trace ++ es

/-- 20_memory.md R41: no step of MBCORE, of the host or of the timer changes any byte of the payload address space.
That a reset changes none either is the model's choice (log 13). -/
def Obligations.PayloadOnlyWrittenFromOutside : Prop :=
  ∀ s s' : State, (∀ a b turns, s.schedule ≠ .payloadWrite a b :: turns) → step s = .next s' →
    s'.payload = s.payload ∧ ∀ a : Word, memRead8 s' a = memRead8 s a

/-- 20_memory.md R43, R44: another writer's byte is read at its address from then on, every other byte reads as
before, and nothing else changes but the turn. -/
def Obligations.PayloadWriteSetsOneByte : Prop :=
  ∀ (s : State) (a : Word) (b : Byte) (turns : List Turn), Memory.wf s.payload →
    s.schedule = .payloadWrite a b :: turns →
    ∃ s', step s = .next s' ∧ s' = { s with schedule := turns, payload := s'.payload } ∧
      memRead8 s' a = b ∧ ∀ x : Word, x ≠ a → memRead8 s' x = memRead8 s x

/-- 00_scope.md R7, 10_state.md R33: the image and the other parameters never change. -/
def Obligations.ParametersNeverChange : Prop :=
  ∀ s s' : State, step s = .next s' → s'.params = s.params

/-! ## Reset and the invariant (70_reset_and_hazards.md) -/

/-- 70_reset_and_hazards.md R120: a reset makes every register read 0 in one step and leaves the event trace and
the parameters, P_IMAGE among them; `State.reset` reads 0 in every register too. -/
def Obligations.ResetZeroesEveryRegister : Prop :=
  (∀ (s : State) (turns : List Turn), s.schedule = .reset :: turns →
    ∃ s', step s = .next s' ∧ (∀ r : Reg, readReg r s' = 0#32) ∧ s'.seqState = .idle ∧
      s'.trace = s.trace ∧ s'.params = s.params) ∧
  (∀ r : Reg, readReg r State.reset = 0#32) ∧ State.reset.seqState = .idle

/-- The invariant holds at reset: the canonical payload, distinct keys (00_scope.md R5), and every register at
its reset value.
The payload and the parameters at `State.reset` are
the model's choices (logs 6 and 7). -/
def Obligations.InvariantHoldsAtReset : Prop :=
  Invariant State.reset

/-- Every step keeps the invariant, from every state that has it: what 10_state.md R15 to R30 say each register
holds stays true, whatever agent moves (70_reset_and_hazards.md R121; 93_implementation_defined.md I7). -/
def Obligations.EveryStepKeepsInvariant : Prop :=
  ∀ s s' : State, Invariant s → step s = .next s' → Invariant s'
end

