-- ==== Sys2Proof/Laws/Decode.lean ====
section
/-! SUPPORT. The fields of a command word, and what the decoder does with them (30_encoding.md R57, R63). -/

namespace Sys2Proof

/-- The three fields of a word make it up again: no bit is dropped (30_encoding.md R57). -/
theorem wordOfFields_fieldsOfWord (w : Word) : wordOfFields (fieldsOfWord w) = w := by
  apply BitVec.eq_of_getLsbD_eq
  intro k hk
  simp only [wordOfFields, fieldsOfWord, BitVec.getLsbD_append, BitVec.getLsbD_extractLsb']
  rcases Nat.lt_or_ge k 4 with h | h
  · simp [h]
  · rcases Nat.lt_or_ge k 5 with h' | h'
    · obtain rfl : k = 4 := by omega
      simp
    · have e1 : ¬k < 4 := by omega
      have e2 : ¬k - 4 < 1 := by omega
      have e3 : k - 4 - 1 < 27 := by omega
      have e4 : 5 + (k - 4 - 1) = k := by omega
      simp [e1, e2, e3, e4]

/-- The fields of a word made of fields are those fields (30_encoding.md R57). -/
theorem fieldsOfWord_wordOfFields (c : Cmd32) : fieldsOfWord (wordOfFields c) = c := by
  obtain ⟨op, mode, rsv⟩ := c
  simp only [fieldsOfWord, wordOfFields, Cmd32.mk.injEq]
  refine ⟨?_, ?_, ?_⟩ <;> apply BitVec.eq_of_getLsbD_eq <;> intro k hk <;>
    simp only [BitVec.getLsbD_append, BitVec.getLsbD_extractLsb']
  · simp [hk]
  · obtain rfl : k = 0 := by omega
    simp
  · have e1 : ¬5 + k < 4 := by omega
    have e2 : ¬5 + k - 4 < 1 := by omega
    have e3 : 5 + k - 4 - 1 = k := by omega
    simp [hk, e1, e2, e3]

/-- The MODE bit names its mode (30_encoding.md R60). -/
@[simp] theorem Mode.ofBit_bit (m : Mode) : Mode.ofBit m.bit = m := by
  cases m <;> rfl

/-- The MODE bit of the mode a bit names is that bit. -/
@[simp] theorem Mode.bit_ofBit (b : BitVec 1) : (Mode.ofBit b).bit = b := by
  revert b; decide

/-- Everything decoding can answer: each command's own fields, or one of the two rejections of
30_encoding.md R63. -/
theorem decodeFields_ok {c : Cmd32} {i : Instr} (h : decodeFields c = .ok i) :
    c = { op := i.opcode, mode := i.modeBit, rsv := 0#27 } := by
  obtain ⟨op, mode, rsv⟩ := c
  have hm : ∀ b : BitVec 1, b = 0#1 ∨ b = 1#1 := by decide
  unfold decodeFields instrOfOpcode at h
  split at h
  · cases h
  · next j hj =>
    split at h
    · cases h
    · next hr =>
      split at h
      · cases h
      · next hmode =>
        have hr : rsv = 0#27 := by simpa using hr
        cases h
        simp only at hj
        split_ifs at hj with h1 h2 h3 h4 h5 h6 <;> cases hj <;>
          rcases hm mode with rfl | rfl <;> simp_all [Instr.opcode, Instr.modeBit, Instr.takesMode]

/-- The fields of a command's encoding decode to it. -/
theorem decodeFields_encode (i : Instr) :
    decodeFields { op := i.opcode, mode := i.modeBit, rsv := 0#27 } = .ok i := by
  cases i with
  | crcInit m => cases m <;> rfl
  | crcAcc => rfl
  | crcFin => rfl
  | ciphInit m => cases m <;> rfl
  | ciphXform => rfl
  | seqStart => rfl

end Sys2Proof
end

