-- ==== Sys2Proof/Laws/State.lean ====
section
/-! SUPPORT. What each shared update of the state does to each field, so that no proof unfolds a record
update. -/

namespace Sys2Proof.Machine

/-- A failed command is its outcome in CMDSTAT (60_exceptions.md R109). -/
@[simp] theorem failCommand_eq (op : BitVec 4) (e : CmdErr) (s : State) :
    failCommand op e s = setCmdstat op e s := rfl

/-- One step is one turn. -/
theorem step_eq (s : State) : step s = machineStep s := rfl

/-! The outcome of a command changes CMDSTAT alone (10_state.md R14; 60_exceptions.md R109). -/

@[simp] theorem setCmdstat_opa (op : BitVec 4) (e : CmdErr) (s : State) : (setCmdstat op e s).opa = s.opa := rfl
@[simp] theorem setCmdstat_opb (op : BitVec 4) (e : CmdErr) (s : State) : (setCmdstat op e s).opb = s.opb := rfl
@[simp] theorem setCmdstat_result (op : BitVec 4) (e : CmdErr) (s : State) : (setCmdstat op e s).result = s.result := rfl
@[simp] theorem setCmdstat_cmdErr (op : BitVec 4) (e : CmdErr) (s : State) : (setCmdstat op e s).cmdErr = e := rfl
@[simp] theorem setCmdstat_cmdOp (op : BitVec 4) (e : CmdErr) (s : State) : (setCmdstat op e s).cmdOp = op := rfl
@[simp] theorem setCmdstat_cksAcc (op : BitVec 4) (e : CmdErr) (s : State) : (setCmdstat op e s).cksAcc = s.cksAcc := rfl
@[simp] theorem setCmdstat_cksPoly (op : BitVec 4) (e : CmdErr) (s : State) : (setCmdstat op e s).cksPoly = s.cksPoly := rfl
@[simp] theorem setCmdstat_cksHh (op : BitVec 4) (e : CmdErr) (s : State) : (setCmdstat op e s).cksHh = s.cksHh := rfl
@[simp] theorem setCmdstat_cksHl (op : BitVec 4) (e : CmdErr) (s : State) : (setCmdstat op e s).cksHl = s.cksHl := rfl
@[simp] theorem setCmdstat_cksV (op : BitVec 4) (e : CmdErr) (s : State) : (setCmdstat op e s).cksV = s.cksV := rfl
@[simp] theorem setCmdstat_cksMode (op : BitVec 4) (e : CmdErr) (s : State) : (setCmdstat op e s).cksMode = s.cksMode := rfl
@[simp] theorem setCmdstat_kscSeed (op : BitVec 4) (e : CmdErr) (s : State) : (setCmdstat op e s).kscSeed = s.kscSeed := rfl
@[simp] theorem setCmdstat_kscKey (op : BitVec 4) (e : CmdErr) (s : State) : (setCmdstat op e s).kscKey = s.kscKey := rfl
@[simp] theorem setCmdstat_kscV (op : BitVec 4) (e : CmdErr) (s : State) : (setCmdstat op e s).kscV = s.kscV := rfl
@[simp] theorem setCmdstat_kscMode (op : BitVec 4) (e : CmdErr) (s : State) : (setCmdstat op e s).kscMode = s.kscMode := rfl
@[simp] theorem setCmdstat_seqState (op : BitVec 4) (e : CmdErr) (s : State) : (setCmdstat op e s).seqState = s.seqState := rfl
@[simp] theorem setCmdstat_seqCode (op : BitVec 4) (e : CmdErr) (s : State) : (setCmdstat op e s).seqCode = s.seqCode := rfl
@[simp] theorem setCmdstat_seqVmatch (op : BitVec 4) (e : CmdErr) (s : State) : (setCmdstat op e s).seqVmatch = s.seqVmatch := rfl
@[simp] theorem setCmdstat_seqLen (op : BitVec 4) (e : CmdErr) (s : State) : (setCmdstat op e s).seqLen = s.seqLen := rfl
@[simp] theorem setCmdstat_seqBase (op : BitVec 4) (e : CmdErr) (s : State) : (setCmdstat op e s).seqBase = s.seqBase := rfl
@[simp] theorem setCmdstat_seqAtt (op : BitVec 4) (e : CmdErr) (s : State) : (setCmdstat op e s).seqAtt = s.seqAtt := rfl
@[simp] theorem setCmdstat_seqWcnt (op : BitVec 4) (e : CmdErr) (s : State) : (setCmdstat op e s).seqWcnt = s.seqWcnt := rfl
@[simp] theorem setCmdstat_seqLastw (op : BitVec 4) (e : CmdErr) (s : State) : (setCmdstat op e s).seqLastw = s.seqLastw := rfl
@[simp] theorem setCmdstat_seqTerr (op : BitVec 4) (e : CmdErr) (s : State) : (setCmdstat op e s).seqTerr = s.seqTerr := rfl
@[simp] theorem setCmdstat_seqWait (op : BitVec 4) (e : CmdErr) (s : State) : (setCmdstat op e s).seqWait = s.seqWait := rfl
@[simp] theorem setCmdstat_trace (op : BitVec 4) (e : CmdErr) (s : State) : (setCmdstat op e s).trace = s.trace := rfl
@[simp] theorem setCmdstat_params (op : BitVec 4) (e : CmdErr) (s : State) : (setCmdstat op e s).params = s.params := rfl
@[simp] theorem setCmdstat_linkMode (op : BitVec 4) (e : CmdErr) (s : State) : (setCmdstat op e s).linkMode = s.linkMode := rfl
@[simp] theorem setCmdstat_payload (op : BitVec 4) (e : CmdErr) (s : State) : (setCmdstat op e s).payload = s.payload := rfl
@[simp] theorem setCmdstat_hostProgram (op : BitVec 4) (e : CmdErr) (s : State) : (setCmdstat op e s).hostProgram = s.hostProgram := rfl
@[simp] theorem setCmdstat_hostReads (op : BitVec 4) (e : CmdErr) (s : State) : (setCmdstat op e s).hostReads = s.hostReads := rfl
@[simp] theorem setCmdstat_schedule (op : BitVec 4) (e : CmdErr) (s : State) : (setCmdstat op e s).schedule = s.schedule := rfl

/-! Emitting an event changes the trace alone (10_state.md R32). -/

@[simp] theorem emit_opa (e : Event) (s : State) : (emit e s).opa = s.opa := rfl
@[simp] theorem emit_opb (e : Event) (s : State) : (emit e s).opb = s.opb := rfl
@[simp] theorem emit_result (e : Event) (s : State) : (emit e s).result = s.result := rfl
@[simp] theorem emit_cmdErr (e : Event) (s : State) : (emit e s).cmdErr = s.cmdErr := rfl
@[simp] theorem emit_cmdOp (e : Event) (s : State) : (emit e s).cmdOp = s.cmdOp := rfl
@[simp] theorem emit_cksAcc (e : Event) (s : State) : (emit e s).cksAcc = s.cksAcc := rfl
@[simp] theorem emit_cksPoly (e : Event) (s : State) : (emit e s).cksPoly = s.cksPoly := rfl
@[simp] theorem emit_cksHh (e : Event) (s : State) : (emit e s).cksHh = s.cksHh := rfl
@[simp] theorem emit_cksHl (e : Event) (s : State) : (emit e s).cksHl = s.cksHl := rfl
@[simp] theorem emit_cksV (e : Event) (s : State) : (emit e s).cksV = s.cksV := rfl
@[simp] theorem emit_cksMode (e : Event) (s : State) : (emit e s).cksMode = s.cksMode := rfl
@[simp] theorem emit_kscSeed (e : Event) (s : State) : (emit e s).kscSeed = s.kscSeed := rfl
@[simp] theorem emit_kscKey (e : Event) (s : State) : (emit e s).kscKey = s.kscKey := rfl
@[simp] theorem emit_kscV (e : Event) (s : State) : (emit e s).kscV = s.kscV := rfl
@[simp] theorem emit_kscMode (e : Event) (s : State) : (emit e s).kscMode = s.kscMode := rfl
@[simp] theorem emit_seqState (e : Event) (s : State) : (emit e s).seqState = s.seqState := rfl
@[simp] theorem emit_seqCode (e : Event) (s : State) : (emit e s).seqCode = s.seqCode := rfl
@[simp] theorem emit_seqVmatch (e : Event) (s : State) : (emit e s).seqVmatch = s.seqVmatch := rfl
@[simp] theorem emit_seqLen (e : Event) (s : State) : (emit e s).seqLen = s.seqLen := rfl
@[simp] theorem emit_seqBase (e : Event) (s : State) : (emit e s).seqBase = s.seqBase := rfl
@[simp] theorem emit_seqAtt (e : Event) (s : State) : (emit e s).seqAtt = s.seqAtt := rfl
@[simp] theorem emit_seqWcnt (e : Event) (s : State) : (emit e s).seqWcnt = s.seqWcnt := rfl
@[simp] theorem emit_seqLastw (e : Event) (s : State) : (emit e s).seqLastw = s.seqLastw := rfl
@[simp] theorem emit_seqTerr (e : Event) (s : State) : (emit e s).seqTerr = s.seqTerr := rfl
@[simp] theorem emit_seqWait (e : Event) (s : State) : (emit e s).seqWait = s.seqWait := rfl
@[simp] theorem emit_trace (e : Event) (s : State) : (emit e s).trace = s.trace ++ [e] := rfl
@[simp] theorem emit_params (e : Event) (s : State) : (emit e s).params = s.params := rfl
@[simp] theorem emit_linkMode (e : Event) (s : State) : (emit e s).linkMode = s.linkMode := rfl
@[simp] theorem emit_payload (e : Event) (s : State) : (emit e s).payload = s.payload := rfl
@[simp] theorem emit_hostProgram (e : Event) (s : State) : (emit e s).hostProgram = s.hostProgram := rfl
@[simp] theorem emit_hostReads (e : Event) (s : State) : (emit e s).hostReads = s.hostReads := rfl
@[simp] theorem emit_schedule (e : Event) (s : State) : (emit e s).schedule = s.schedule := rfl

/-! A transport error that ends the session (42_sequencer.md R99). -/

@[simp] theorem transportAbort_opa (c : Word) (s : State) : (transportAbort c s).opa = s.opa := rfl
@[simp] theorem transportAbort_opb (c : Word) (s : State) : (transportAbort c s).opb = s.opb := rfl
@[simp] theorem transportAbort_result (c : Word) (s : State) : (transportAbort c s).result = s.result := rfl
@[simp] theorem transportAbort_cmdErr (c : Word) (s : State) : (transportAbort c s).cmdErr = s.cmdErr := rfl
@[simp] theorem transportAbort_cmdOp (c : Word) (s : State) : (transportAbort c s).cmdOp = s.cmdOp := rfl
@[simp] theorem transportAbort_cksAcc (c : Word) (s : State) : (transportAbort c s).cksAcc = s.cksAcc := rfl
@[simp] theorem transportAbort_cksPoly (c : Word) (s : State) : (transportAbort c s).cksPoly = s.cksPoly := rfl
@[simp] theorem transportAbort_cksHh (c : Word) (s : State) : (transportAbort c s).cksHh = s.cksHh := rfl
@[simp] theorem transportAbort_cksHl (c : Word) (s : State) : (transportAbort c s).cksHl = s.cksHl := rfl
@[simp] theorem transportAbort_cksV (c : Word) (s : State) : (transportAbort c s).cksV = s.cksV := rfl
@[simp] theorem transportAbort_cksMode (c : Word) (s : State) : (transportAbort c s).cksMode = s.cksMode := rfl
@[simp] theorem transportAbort_kscSeed (c : Word) (s : State) : (transportAbort c s).kscSeed = s.kscSeed := rfl
@[simp] theorem transportAbort_kscKey (c : Word) (s : State) : (transportAbort c s).kscKey = s.kscKey := rfl
@[simp] theorem transportAbort_kscV (c : Word) (s : State) : (transportAbort c s).kscV = s.kscV := rfl
@[simp] theorem transportAbort_kscMode (c : Word) (s : State) : (transportAbort c s).kscMode = s.kscMode := rfl
@[simp] theorem transportAbort_seqState (c : Word) (s : State) : (transportAbort c s).seqState = .failed := rfl
@[simp] theorem transportAbort_seqCode (c : Word) (s : State) : (transportAbort c s).seqCode = .transport := rfl
@[simp] theorem transportAbort_seqVmatch (c : Word) (s : State) : (transportAbort c s).seqVmatch = s.seqVmatch := rfl
@[simp] theorem transportAbort_seqLen (c : Word) (s : State) : (transportAbort c s).seqLen = s.seqLen := rfl
@[simp] theorem transportAbort_seqBase (c : Word) (s : State) : (transportAbort c s).seqBase = s.seqBase := rfl
@[simp] theorem transportAbort_seqAtt (c : Word) (s : State) : (transportAbort c s).seqAtt = s.seqAtt := rfl
@[simp] theorem transportAbort_seqWcnt (c : Word) (s : State) : (transportAbort c s).seqWcnt = s.seqWcnt := rfl
@[simp] theorem transportAbort_seqLastw (c : Word) (s : State) : (transportAbort c s).seqLastw = s.seqLastw := rfl
@[simp] theorem transportAbort_seqTerr (c : Word) (s : State) : (transportAbort c s).seqTerr = c := rfl
@[simp] theorem transportAbort_seqWait (c : Word) (s : State) : (transportAbort c s).seqWait = s.seqWait := rfl
@[simp] theorem transportAbort_trace (c : Word) (s : State) : (transportAbort c s).trace = s.trace := rfl
@[simp] theorem transportAbort_params (c : Word) (s : State) : (transportAbort c s).params = s.params := rfl
@[simp] theorem transportAbort_linkMode (c : Word) (s : State) : (transportAbort c s).linkMode = s.linkMode := rfl
@[simp] theorem transportAbort_payload (c : Word) (s : State) : (transportAbort c s).payload = s.payload := rfl
@[simp] theorem transportAbort_hostProgram (c : Word) (s : State) : (transportAbort c s).hostProgram = s.hostProgram := rfl
@[simp] theorem transportAbort_hostReads (c : Word) (s : State) : (transportAbort c s).hostReads = s.hostReads := rfl
@[simp] theorem transportAbort_schedule (c : Word) (s : State) : (transportAbort c s).schedule = s.schedule := rfl

/-! A new accumulator (40_checksum.md R73, R74). -/

@[simp] theorem putChecksum_opa (a : Half) (s : State) : (putChecksum a s).opa = s.opa := rfl
@[simp] theorem putChecksum_opb (a : Half) (s : State) : (putChecksum a s).opb = s.opb := rfl
@[simp] theorem putChecksum_result (a : Half) (s : State) : (putChecksum a s).result = a.setWidth 32 := rfl
@[simp] theorem putChecksum_cmdErr (a : Half) (s : State) : (putChecksum a s).cmdErr = s.cmdErr := rfl
@[simp] theorem putChecksum_cmdOp (a : Half) (s : State) : (putChecksum a s).cmdOp = s.cmdOp := rfl
@[simp] theorem putChecksum_cksAcc (a : Half) (s : State) : (putChecksum a s).cksAcc = a := rfl
@[simp] theorem putChecksum_cksPoly (a : Half) (s : State) : (putChecksum a s).cksPoly = s.cksPoly := rfl
@[simp] theorem putChecksum_cksHh (a : Half) (s : State) : (putChecksum a s).cksHh = s.cksHh := rfl
@[simp] theorem putChecksum_cksHl (a : Half) (s : State) : (putChecksum a s).cksHl = s.cksHl := rfl
@[simp] theorem putChecksum_cksV (a : Half) (s : State) : (putChecksum a s).cksV = s.cksV := rfl
@[simp] theorem putChecksum_cksMode (a : Half) (s : State) : (putChecksum a s).cksMode = s.cksMode := rfl
@[simp] theorem putChecksum_kscSeed (a : Half) (s : State) : (putChecksum a s).kscSeed = s.kscSeed := rfl
@[simp] theorem putChecksum_kscKey (a : Half) (s : State) : (putChecksum a s).kscKey = s.kscKey := rfl
@[simp] theorem putChecksum_kscV (a : Half) (s : State) : (putChecksum a s).kscV = s.kscV := rfl
@[simp] theorem putChecksum_kscMode (a : Half) (s : State) : (putChecksum a s).kscMode = s.kscMode := rfl
@[simp] theorem putChecksum_seqState (a : Half) (s : State) : (putChecksum a s).seqState = s.seqState := rfl
@[simp] theorem putChecksum_seqCode (a : Half) (s : State) : (putChecksum a s).seqCode = s.seqCode := rfl
@[simp] theorem putChecksum_seqVmatch (a : Half) (s : State) : (putChecksum a s).seqVmatch = s.seqVmatch := rfl
@[simp] theorem putChecksum_seqLen (a : Half) (s : State) : (putChecksum a s).seqLen = s.seqLen := rfl
@[simp] theorem putChecksum_seqBase (a : Half) (s : State) : (putChecksum a s).seqBase = s.seqBase := rfl
@[simp] theorem putChecksum_seqAtt (a : Half) (s : State) : (putChecksum a s).seqAtt = s.seqAtt := rfl
@[simp] theorem putChecksum_seqWcnt (a : Half) (s : State) : (putChecksum a s).seqWcnt = s.seqWcnt := rfl
@[simp] theorem putChecksum_seqLastw (a : Half) (s : State) : (putChecksum a s).seqLastw = s.seqLastw := rfl
@[simp] theorem putChecksum_seqTerr (a : Half) (s : State) : (putChecksum a s).seqTerr = s.seqTerr := rfl
@[simp] theorem putChecksum_seqWait (a : Half) (s : State) : (putChecksum a s).seqWait = s.seqWait := rfl
@[simp] theorem putChecksum_trace (a : Half) (s : State) : (putChecksum a s).trace = s.trace := rfl
@[simp] theorem putChecksum_params (a : Half) (s : State) : (putChecksum a s).params = s.params := rfl
@[simp] theorem putChecksum_linkMode (a : Half) (s : State) : (putChecksum a s).linkMode = s.linkMode := rfl
@[simp] theorem putChecksum_payload (a : Half) (s : State) : (putChecksum a s).payload = s.payload := rfl
@[simp] theorem putChecksum_hostProgram (a : Half) (s : State) : (putChecksum a s).hostProgram = s.hostProgram := rfl
@[simp] theorem putChecksum_hostReads (a : Half) (s : State) : (putChecksum a s).hostReads = s.hostReads := rfl
@[simp] theorem putChecksum_schedule (a : Half) (s : State) : (putChecksum a s).schedule = s.schedule := rfl

/-! The host's record of a read. -/

@[simp] theorem logRead_opa (o : Nat) (v : Word) (s : State) : (logRead o v s).opa = s.opa := rfl
@[simp] theorem logRead_opb (o : Nat) (v : Word) (s : State) : (logRead o v s).opb = s.opb := rfl
@[simp] theorem logRead_result (o : Nat) (v : Word) (s : State) : (logRead o v s).result = s.result := rfl
@[simp] theorem logRead_cmdErr (o : Nat) (v : Word) (s : State) : (logRead o v s).cmdErr = s.cmdErr := rfl
@[simp] theorem logRead_cmdOp (o : Nat) (v : Word) (s : State) : (logRead o v s).cmdOp = s.cmdOp := rfl
@[simp] theorem logRead_cksAcc (o : Nat) (v : Word) (s : State) : (logRead o v s).cksAcc = s.cksAcc := rfl
@[simp] theorem logRead_cksPoly (o : Nat) (v : Word) (s : State) : (logRead o v s).cksPoly = s.cksPoly := rfl
@[simp] theorem logRead_cksHh (o : Nat) (v : Word) (s : State) : (logRead o v s).cksHh = s.cksHh := rfl
@[simp] theorem logRead_cksHl (o : Nat) (v : Word) (s : State) : (logRead o v s).cksHl = s.cksHl := rfl
@[simp] theorem logRead_cksV (o : Nat) (v : Word) (s : State) : (logRead o v s).cksV = s.cksV := rfl
@[simp] theorem logRead_cksMode (o : Nat) (v : Word) (s : State) : (logRead o v s).cksMode = s.cksMode := rfl
@[simp] theorem logRead_kscSeed (o : Nat) (v : Word) (s : State) : (logRead o v s).kscSeed = s.kscSeed := rfl
@[simp] theorem logRead_kscKey (o : Nat) (v : Word) (s : State) : (logRead o v s).kscKey = s.kscKey := rfl
@[simp] theorem logRead_kscV (o : Nat) (v : Word) (s : State) : (logRead o v s).kscV = s.kscV := rfl
@[simp] theorem logRead_kscMode (o : Nat) (v : Word) (s : State) : (logRead o v s).kscMode = s.kscMode := rfl
@[simp] theorem logRead_seqState (o : Nat) (v : Word) (s : State) : (logRead o v s).seqState = s.seqState := rfl
@[simp] theorem logRead_seqCode (o : Nat) (v : Word) (s : State) : (logRead o v s).seqCode = s.seqCode := rfl
@[simp] theorem logRead_seqVmatch (o : Nat) (v : Word) (s : State) : (logRead o v s).seqVmatch = s.seqVmatch := rfl
@[simp] theorem logRead_seqLen (o : Nat) (v : Word) (s : State) : (logRead o v s).seqLen = s.seqLen := rfl
@[simp] theorem logRead_seqBase (o : Nat) (v : Word) (s : State) : (logRead o v s).seqBase = s.seqBase := rfl
@[simp] theorem logRead_seqAtt (o : Nat) (v : Word) (s : State) : (logRead o v s).seqAtt = s.seqAtt := rfl
@[simp] theorem logRead_seqWcnt (o : Nat) (v : Word) (s : State) : (logRead o v s).seqWcnt = s.seqWcnt := rfl
@[simp] theorem logRead_seqLastw (o : Nat) (v : Word) (s : State) : (logRead o v s).seqLastw = s.seqLastw := rfl
@[simp] theorem logRead_seqTerr (o : Nat) (v : Word) (s : State) : (logRead o v s).seqTerr = s.seqTerr := rfl
@[simp] theorem logRead_seqWait (o : Nat) (v : Word) (s : State) : (logRead o v s).seqWait = s.seqWait := rfl
@[simp] theorem logRead_trace (o : Nat) (v : Word) (s : State) : (logRead o v s).trace = s.trace := rfl
@[simp] theorem logRead_params (o : Nat) (v : Word) (s : State) : (logRead o v s).params = s.params := rfl
@[simp] theorem logRead_linkMode (o : Nat) (v : Word) (s : State) : (logRead o v s).linkMode = s.linkMode := rfl
@[simp] theorem logRead_payload (o : Nat) (v : Word) (s : State) : (logRead o v s).payload = s.payload := rfl
@[simp] theorem logRead_hostProgram (o : Nat) (v : Word) (s : State) : (logRead o v s).hostProgram = s.hostProgram := rfl
@[simp] theorem logRead_hostReads (o : Nat) (v : Word) (s : State) : (logRead o v s).hostReads = s.hostReads ++ [{ offset := o, value := v }] := rfl
@[simp] theorem logRead_schedule (o : Nat) (v : Word) (s : State) : (logRead o v s).schedule = s.schedule := rfl

/-! The host is done with a line. -/

@[simp] theorem popLine_opa (s : State) : (popLine s).opa = s.opa := rfl
@[simp] theorem popLine_opb (s : State) : (popLine s).opb = s.opb := rfl
@[simp] theorem popLine_result (s : State) : (popLine s).result = s.result := rfl
@[simp] theorem popLine_cmdErr (s : State) : (popLine s).cmdErr = s.cmdErr := rfl
@[simp] theorem popLine_cmdOp (s : State) : (popLine s).cmdOp = s.cmdOp := rfl
@[simp] theorem popLine_cksAcc (s : State) : (popLine s).cksAcc = s.cksAcc := rfl
@[simp] theorem popLine_cksPoly (s : State) : (popLine s).cksPoly = s.cksPoly := rfl
@[simp] theorem popLine_cksHh (s : State) : (popLine s).cksHh = s.cksHh := rfl
@[simp] theorem popLine_cksHl (s : State) : (popLine s).cksHl = s.cksHl := rfl
@[simp] theorem popLine_cksV (s : State) : (popLine s).cksV = s.cksV := rfl
@[simp] theorem popLine_cksMode (s : State) : (popLine s).cksMode = s.cksMode := rfl
@[simp] theorem popLine_kscSeed (s : State) : (popLine s).kscSeed = s.kscSeed := rfl
@[simp] theorem popLine_kscKey (s : State) : (popLine s).kscKey = s.kscKey := rfl
@[simp] theorem popLine_kscV (s : State) : (popLine s).kscV = s.kscV := rfl
@[simp] theorem popLine_kscMode (s : State) : (popLine s).kscMode = s.kscMode := rfl
@[simp] theorem popLine_seqState (s : State) : (popLine s).seqState = s.seqState := rfl
@[simp] theorem popLine_seqCode (s : State) : (popLine s).seqCode = s.seqCode := rfl
@[simp] theorem popLine_seqVmatch (s : State) : (popLine s).seqVmatch = s.seqVmatch := rfl
@[simp] theorem popLine_seqLen (s : State) : (popLine s).seqLen = s.seqLen := rfl
@[simp] theorem popLine_seqBase (s : State) : (popLine s).seqBase = s.seqBase := rfl
@[simp] theorem popLine_seqAtt (s : State) : (popLine s).seqAtt = s.seqAtt := rfl
@[simp] theorem popLine_seqWcnt (s : State) : (popLine s).seqWcnt = s.seqWcnt := rfl
@[simp] theorem popLine_seqLastw (s : State) : (popLine s).seqLastw = s.seqLastw := rfl
@[simp] theorem popLine_seqTerr (s : State) : (popLine s).seqTerr = s.seqTerr := rfl
@[simp] theorem popLine_seqWait (s : State) : (popLine s).seqWait = s.seqWait := rfl
@[simp] theorem popLine_trace (s : State) : (popLine s).trace = s.trace := rfl
@[simp] theorem popLine_params (s : State) : (popLine s).params = s.params := rfl
@[simp] theorem popLine_linkMode (s : State) : (popLine s).linkMode = s.linkMode := rfl
@[simp] theorem popLine_payload (s : State) : (popLine s).payload = s.payload := rfl
@[simp] theorem popLine_hostProgram (s : State) : (popLine s).hostProgram = s.hostProgram.tail := rfl
@[simp] theorem popLine_hostReads (s : State) : (popLine s).hostReads = s.hostReads := rfl
@[simp] theorem popLine_schedule (s : State) : (popLine s).schedule = s.schedule := rfl

/-! A turn is taken. -/

@[simp] theorem popTurn_opa (s : State) : (popTurn s).opa = s.opa := rfl
@[simp] theorem popTurn_opb (s : State) : (popTurn s).opb = s.opb := rfl
@[simp] theorem popTurn_result (s : State) : (popTurn s).result = s.result := rfl
@[simp] theorem popTurn_cmdErr (s : State) : (popTurn s).cmdErr = s.cmdErr := rfl
@[simp] theorem popTurn_cmdOp (s : State) : (popTurn s).cmdOp = s.cmdOp := rfl
@[simp] theorem popTurn_cksAcc (s : State) : (popTurn s).cksAcc = s.cksAcc := rfl
@[simp] theorem popTurn_cksPoly (s : State) : (popTurn s).cksPoly = s.cksPoly := rfl
@[simp] theorem popTurn_cksHh (s : State) : (popTurn s).cksHh = s.cksHh := rfl
@[simp] theorem popTurn_cksHl (s : State) : (popTurn s).cksHl = s.cksHl := rfl
@[simp] theorem popTurn_cksV (s : State) : (popTurn s).cksV = s.cksV := rfl
@[simp] theorem popTurn_cksMode (s : State) : (popTurn s).cksMode = s.cksMode := rfl
@[simp] theorem popTurn_kscSeed (s : State) : (popTurn s).kscSeed = s.kscSeed := rfl
@[simp] theorem popTurn_kscKey (s : State) : (popTurn s).kscKey = s.kscKey := rfl
@[simp] theorem popTurn_kscV (s : State) : (popTurn s).kscV = s.kscV := rfl
@[simp] theorem popTurn_kscMode (s : State) : (popTurn s).kscMode = s.kscMode := rfl
@[simp] theorem popTurn_seqState (s : State) : (popTurn s).seqState = s.seqState := rfl
@[simp] theorem popTurn_seqCode (s : State) : (popTurn s).seqCode = s.seqCode := rfl
@[simp] theorem popTurn_seqVmatch (s : State) : (popTurn s).seqVmatch = s.seqVmatch := rfl
@[simp] theorem popTurn_seqLen (s : State) : (popTurn s).seqLen = s.seqLen := rfl
@[simp] theorem popTurn_seqBase (s : State) : (popTurn s).seqBase = s.seqBase := rfl
@[simp] theorem popTurn_seqAtt (s : State) : (popTurn s).seqAtt = s.seqAtt := rfl
@[simp] theorem popTurn_seqWcnt (s : State) : (popTurn s).seqWcnt = s.seqWcnt := rfl
@[simp] theorem popTurn_seqLastw (s : State) : (popTurn s).seqLastw = s.seqLastw := rfl
@[simp] theorem popTurn_seqTerr (s : State) : (popTurn s).seqTerr = s.seqTerr := rfl
@[simp] theorem popTurn_seqWait (s : State) : (popTurn s).seqWait = s.seqWait := rfl
@[simp] theorem popTurn_trace (s : State) : (popTurn s).trace = s.trace := rfl
@[simp] theorem popTurn_params (s : State) : (popTurn s).params = s.params := rfl
@[simp] theorem popTurn_linkMode (s : State) : (popTurn s).linkMode = s.linkMode := rfl
@[simp] theorem popTurn_payload (s : State) : (popTurn s).payload = s.payload := rfl
@[simp] theorem popTurn_hostProgram (s : State) : (popTurn s).hostProgram = s.hostProgram := rfl
@[simp] theorem popTurn_hostReads (s : State) : (popTurn s).hostReads = s.hostReads := rfl
@[simp] theorem popTurn_schedule (s : State) : (popTurn s).schedule = s.schedule.tail := rfl

/-! The link agent drives `link_mode` (60_exceptions.md R107). -/

@[simp] theorem driveLinkMode_opa (m : LinkMode) (s : State) : (driveLinkMode m s).opa = s.opa := rfl
@[simp] theorem driveLinkMode_opb (m : LinkMode) (s : State) : (driveLinkMode m s).opb = s.opb := rfl
@[simp] theorem driveLinkMode_result (m : LinkMode) (s : State) : (driveLinkMode m s).result = s.result := rfl
@[simp] theorem driveLinkMode_cmdErr (m : LinkMode) (s : State) : (driveLinkMode m s).cmdErr = s.cmdErr := rfl
@[simp] theorem driveLinkMode_cmdOp (m : LinkMode) (s : State) : (driveLinkMode m s).cmdOp = s.cmdOp := rfl
@[simp] theorem driveLinkMode_cksAcc (m : LinkMode) (s : State) : (driveLinkMode m s).cksAcc = s.cksAcc := rfl
@[simp] theorem driveLinkMode_cksPoly (m : LinkMode) (s : State) : (driveLinkMode m s).cksPoly = s.cksPoly := rfl
@[simp] theorem driveLinkMode_cksHh (m : LinkMode) (s : State) : (driveLinkMode m s).cksHh = s.cksHh := rfl
@[simp] theorem driveLinkMode_cksHl (m : LinkMode) (s : State) : (driveLinkMode m s).cksHl = s.cksHl := rfl
@[simp] theorem driveLinkMode_cksV (m : LinkMode) (s : State) : (driveLinkMode m s).cksV = s.cksV := rfl
@[simp] theorem driveLinkMode_cksMode (m : LinkMode) (s : State) : (driveLinkMode m s).cksMode = s.cksMode := rfl
@[simp] theorem driveLinkMode_kscSeed (m : LinkMode) (s : State) : (driveLinkMode m s).kscSeed = s.kscSeed := rfl
@[simp] theorem driveLinkMode_kscKey (m : LinkMode) (s : State) : (driveLinkMode m s).kscKey = s.kscKey := rfl
@[simp] theorem driveLinkMode_kscV (m : LinkMode) (s : State) : (driveLinkMode m s).kscV = s.kscV := rfl
@[simp] theorem driveLinkMode_kscMode (m : LinkMode) (s : State) : (driveLinkMode m s).kscMode = s.kscMode := rfl
@[simp] theorem driveLinkMode_seqState (m : LinkMode) (s : State) : (driveLinkMode m s).seqState = s.seqState := rfl
@[simp] theorem driveLinkMode_seqCode (m : LinkMode) (s : State) : (driveLinkMode m s).seqCode = s.seqCode := rfl
@[simp] theorem driveLinkMode_seqVmatch (m : LinkMode) (s : State) : (driveLinkMode m s).seqVmatch = s.seqVmatch := rfl
@[simp] theorem driveLinkMode_seqLen (m : LinkMode) (s : State) : (driveLinkMode m s).seqLen = s.seqLen := rfl
@[simp] theorem driveLinkMode_seqBase (m : LinkMode) (s : State) : (driveLinkMode m s).seqBase = s.seqBase := rfl
@[simp] theorem driveLinkMode_seqAtt (m : LinkMode) (s : State) : (driveLinkMode m s).seqAtt = s.seqAtt := rfl
@[simp] theorem driveLinkMode_seqWcnt (m : LinkMode) (s : State) : (driveLinkMode m s).seqWcnt = s.seqWcnt := rfl
@[simp] theorem driveLinkMode_seqLastw (m : LinkMode) (s : State) : (driveLinkMode m s).seqLastw = s.seqLastw := rfl
@[simp] theorem driveLinkMode_seqTerr (m : LinkMode) (s : State) : (driveLinkMode m s).seqTerr = s.seqTerr := rfl
@[simp] theorem driveLinkMode_seqWait (m : LinkMode) (s : State) : (driveLinkMode m s).seqWait = s.seqWait := rfl
@[simp] theorem driveLinkMode_trace (m : LinkMode) (s : State) : (driveLinkMode m s).trace = s.trace := rfl
@[simp] theorem driveLinkMode_params (m : LinkMode) (s : State) : (driveLinkMode m s).params = s.params := rfl
@[simp] theorem driveLinkMode_linkMode (m : LinkMode) (s : State) : (driveLinkMode m s).linkMode = m := rfl
@[simp] theorem driveLinkMode_payload (m : LinkMode) (s : State) : (driveLinkMode m s).payload = s.payload := rfl
@[simp] theorem driveLinkMode_hostProgram (m : LinkMode) (s : State) : (driveLinkMode m s).hostProgram = s.hostProgram := rfl
@[simp] theorem driveLinkMode_hostReads (m : LinkMode) (s : State) : (driveLinkMode m s).hostReads = s.hostReads := rfl
@[simp] theorem driveLinkMode_schedule (m : LinkMode) (s : State) : (driveLinkMode m s).schedule = s.schedule := rfl

/-! Another writer writes a payload byte (20_memory.md R44). -/

@[simp] theorem writePayload_opa (a : Word) (b : Byte) (s : State) : (writePayload a b s).opa = s.opa := rfl
@[simp] theorem writePayload_opb (a : Word) (b : Byte) (s : State) : (writePayload a b s).opb = s.opb := rfl
@[simp] theorem writePayload_result (a : Word) (b : Byte) (s : State) : (writePayload a b s).result = s.result := rfl
@[simp] theorem writePayload_cmdErr (a : Word) (b : Byte) (s : State) : (writePayload a b s).cmdErr = s.cmdErr := rfl
@[simp] theorem writePayload_cmdOp (a : Word) (b : Byte) (s : State) : (writePayload a b s).cmdOp = s.cmdOp := rfl
@[simp] theorem writePayload_cksAcc (a : Word) (b : Byte) (s : State) : (writePayload a b s).cksAcc = s.cksAcc := rfl
@[simp] theorem writePayload_cksPoly (a : Word) (b : Byte) (s : State) : (writePayload a b s).cksPoly = s.cksPoly := rfl
@[simp] theorem writePayload_cksHh (a : Word) (b : Byte) (s : State) : (writePayload a b s).cksHh = s.cksHh := rfl
@[simp] theorem writePayload_cksHl (a : Word) (b : Byte) (s : State) : (writePayload a b s).cksHl = s.cksHl := rfl
@[simp] theorem writePayload_cksV (a : Word) (b : Byte) (s : State) : (writePayload a b s).cksV = s.cksV := rfl
@[simp] theorem writePayload_cksMode (a : Word) (b : Byte) (s : State) : (writePayload a b s).cksMode = s.cksMode := rfl
@[simp] theorem writePayload_kscSeed (a : Word) (b : Byte) (s : State) : (writePayload a b s).kscSeed = s.kscSeed := rfl
@[simp] theorem writePayload_kscKey (a : Word) (b : Byte) (s : State) : (writePayload a b s).kscKey = s.kscKey := rfl
@[simp] theorem writePayload_kscV (a : Word) (b : Byte) (s : State) : (writePayload a b s).kscV = s.kscV := rfl
@[simp] theorem writePayload_kscMode (a : Word) (b : Byte) (s : State) : (writePayload a b s).kscMode = s.kscMode := rfl
@[simp] theorem writePayload_seqState (a : Word) (b : Byte) (s : State) : (writePayload a b s).seqState = s.seqState := rfl
@[simp] theorem writePayload_seqCode (a : Word) (b : Byte) (s : State) : (writePayload a b s).seqCode = s.seqCode := rfl
@[simp] theorem writePayload_seqVmatch (a : Word) (b : Byte) (s : State) : (writePayload a b s).seqVmatch = s.seqVmatch := rfl
@[simp] theorem writePayload_seqLen (a : Word) (b : Byte) (s : State) : (writePayload a b s).seqLen = s.seqLen := rfl
@[simp] theorem writePayload_seqBase (a : Word) (b : Byte) (s : State) : (writePayload a b s).seqBase = s.seqBase := rfl
@[simp] theorem writePayload_seqAtt (a : Word) (b : Byte) (s : State) : (writePayload a b s).seqAtt = s.seqAtt := rfl
@[simp] theorem writePayload_seqWcnt (a : Word) (b : Byte) (s : State) : (writePayload a b s).seqWcnt = s.seqWcnt := rfl
@[simp] theorem writePayload_seqLastw (a : Word) (b : Byte) (s : State) : (writePayload a b s).seqLastw = s.seqLastw := rfl
@[simp] theorem writePayload_seqTerr (a : Word) (b : Byte) (s : State) : (writePayload a b s).seqTerr = s.seqTerr := rfl
@[simp] theorem writePayload_seqWait (a : Word) (b : Byte) (s : State) : (writePayload a b s).seqWait = s.seqWait := rfl
@[simp] theorem writePayload_trace (a : Word) (b : Byte) (s : State) : (writePayload a b s).trace = s.trace := rfl
@[simp] theorem writePayload_params (a : Word) (b : Byte) (s : State) : (writePayload a b s).params = s.params := rfl
@[simp] theorem writePayload_linkMode (a : Word) (b : Byte) (s : State) : (writePayload a b s).linkMode = s.linkMode := rfl
@[simp] theorem writePayload_payload (a : Word) (b : Byte) (s : State) : (writePayload a b s).payload = Memory.writeByte s.payload a.toNat b := rfl
@[simp] theorem writePayload_hostProgram (a : Word) (b : Byte) (s : State) : (writePayload a b s).hostProgram = s.hostProgram := rfl
@[simp] theorem writePayload_hostReads (a : Word) (b : Byte) (s : State) : (writePayload a b s).hostReads = s.hostReads := rfl
@[simp] theorem writePayload_schedule (a : Word) (b : Byte) (s : State) : (writePayload a b s).schedule = s.schedule := rfl

end Sys2Proof.Machine
end

