-- ==== Sys2Proof/Laws/Memory.lean ====
section
/-! SUPPORT. The payload address space: reading after a write, and the canonical form every write keeps
(20_memory.md R43, R44). -/

namespace Sys2Proof.Machine

/-- Every address of a cell is at least as high as the first one's. -/
theorem Memory.wf_tail {c : Host.Cell} {m : Memory} (h : Memory.wf (c :: m)) : Memory.wf m :=
  ⟨(List.pairwise_cons.mp h.1).2, fun d hd => h.2 d (List.mem_cons_of_mem _ hd)⟩

/-- An address below every cell is unlisted. -/
theorem Memory.readByte_of_lt : ∀ {m : Memory} {a : Nat}, (∀ c ∈ m, a < c.1) →
    Memory.readByte m a = Memory.unlisted
  | [], _, _ => rfl
  | (k, v) :: rest, a, h => by
    have hk : a < k := h (k, v) (List.mem_cons_self ..)
    simp only [Memory.readByte, if_neg (Nat.ne_of_gt hk)]
    exact Memory.readByte_of_lt fun c hc => h c (List.mem_cons_of_mem _ hc)

/-- A cell put below the others reads as its byte at its address and leaves every other address. -/
theorem Memory.readByte_consCell {a : Nat} {b : Byte} {m : Memory} (h : ∀ c ∈ m, a < c.1) (x : Nat) :
    Memory.readByte (Memory.consCell a b m) x = if x = a then b else Memory.readByte m x := by
  unfold Memory.consCell
  by_cases hx : x = a
  · subst hx
    split
    · next hb => simp [Memory.readByte_of_lt h, hb]
    · simp [Memory.readByte]
  · rw [if_neg hx]
    split
    · rfl
    · simp [Memory.readByte, Ne.symm hx]

/-- Reading after a write: the byte written at its address, what was there at every other. -/
theorem Memory.readByte_writeByte : ∀ {m : Memory}, Memory.wf m → ∀ (a : Nat) (b : Byte) (x : Nat),
    Memory.readByte (Memory.writeByte m a b) x = if x = a then b else Memory.readByte m x
  | [], _, a, b, x => by
    simpa [Memory.writeByte] using Memory.readByte_consCell (m := []) (by simp) x
  | (k, v) :: rest, h, a, b, x => by
    have hlow : ∀ c ∈ rest, k < c.1 := (List.pairwise_cons.mp h.1).1
    have ih := Memory.readByte_writeByte (Memory.wf_tail h) a b x
    unfold Memory.writeByte
    split
    · next hka =>
      by_cases hxk : k = x
      · subst hxk; simp [Memory.readByte, Nat.ne_of_lt hka]
      · simp only [Memory.readByte, if_neg hxk, ih]
    · split
      · next hka =>
        subst hka
        rw [Memory.readByte_consCell hlow]
        by_cases hx : x = k
        · simp [hx]
        · simp [hx, Memory.readByte, Ne.symm hx]
      · next h1 h2 =>
        refine Memory.readByte_consCell (fun c hc => ?_) x
        have hak : a < k := by omega
        rcases List.mem_cons.mp hc with rfl | hc
        · exact hak
        · exact Nat.lt_trans hak (hlow c hc)

/-- A cell put below the others, with a legal address, keeps the canonical form. -/
theorem Memory.wf_consCell {a : Nat} {b : Byte} {m : Memory} (hm : Memory.wf m) (ha : a < 2 ^ 32)
    (h : ∀ c ∈ m, a < c.1) : Memory.wf (Memory.consCell a b m) := by
  unfold Memory.consCell
  split
  · exact hm
  · next hb =>
    refine ⟨List.pairwise_cons.mpr ⟨h, hm.1⟩, fun c hc => ?_⟩
    rcases List.mem_cons.mp hc with rfl | hc
    · exact ⟨ha, hb⟩
    · exact hm.2 c hc

/-- Every address listed after a write was listed before it, or is the address written. -/
theorem Memory.mem_writeByte : ∀ {m : Memory} {a : Nat} {b : Byte} {c : Host.Cell},
    c ∈ Memory.writeByte m a b → c.1 = a ∨ c ∈ m
  | [], a, b, c, h => by
    unfold Memory.writeByte Memory.consCell at h
    split at h <;> simp_all
  | (k, v) :: rest, a, b, c, h => by
    unfold Memory.writeByte at h
    split at h
    · rcases List.mem_cons.mp h with rfl | h
      · exact .inr (List.mem_cons_self ..)
      · exact (Memory.mem_writeByte h).imp id (List.mem_cons_of_mem _)
    · split at h <;> unfold Memory.consCell at h <;> split at h <;> simp_all <;>
        rcases h with rfl | h <;> simp_all

/-- A write of a byte at an address of the payload space keeps the canonical form. -/
theorem Memory.wf_writeByte : ∀ {m : Memory}, Memory.wf m → ∀ {a : Nat}, a < 2 ^ 32 → ∀ b : Byte,
    Memory.wf (Memory.writeByte m a b)
  | [], h, a, ha, b => Memory.wf_consCell h ha (by simp)
  | (k, v) :: rest, h, a, ha, b => by
    have hlow : ∀ c ∈ rest, k < c.1 := (List.pairwise_cons.mp h.1).1
    have ih := Memory.wf_writeByte (Memory.wf_tail h) ha b
    unfold Memory.writeByte
    split
    · next hka =>
      refine ⟨List.pairwise_cons.mpr ⟨fun c hc => ?_, ih.1⟩, fun c hc => ?_⟩
      · rcases Memory.mem_writeByte hc with he | hc
        · exact he ▸ hka
        · exact hlow c hc
      · rcases List.mem_cons.mp hc with rfl | hc
        · exact h.2 _ (List.mem_cons_self ..)
        · exact ih.2 c hc
    · split
      · next hka => exact Memory.wf_consCell (Memory.wf_tail h) ha (fun c hc => hka ▸ hlow c hc)
      · next h1 h2 =>
        have hak : a < k := by omega
        refine Memory.wf_consCell h ha (fun c hc => ?_)
        rcases List.mem_cons.mp hc with rfl | hc
        · exact hak
        · exact Nat.lt_trans hak (hlow c hc)

/-- The payload at reset is in canonical form. -/
theorem Memory.wf_reset : Memory.wf State.reset.payload := ⟨List.Pairwise.nil, by simp [State.reset]⟩

/-- Another writer's byte keeps the payload in canonical form (20_memory.md R44). -/
theorem writePayload_wf {s : State} (h : Memory.wf s.payload) (a : Word) (b : Byte) :
    Memory.wf (writePayload a b s).payload :=
  Memory.wf_writeByte h a.isLt b

end Sys2Proof.Machine
end

