-- ==== Sys2Proof/Laws/PerInstr.lean ====
section
/-! SUPPORT. A fact about every command, command by command: its encoding lies in its row of the opcode
table (30_encoding.md R63, the table of match and mask). -/

namespace Sys2Proof.Laws

/-- The match and mask of a command's row of the opcode table. -/
def tableRow : Instr → Word × Word
  | .crcInit _ => (0x00000001#32, 0xFFFFFFEF#32)
  | .crcAcc => (0x00000002#32, 0xFFFFFFFF#32)
  | .crcFin => (0x00000003#32, 0xFFFFFFFF#32)
  | .ciphInit _ => (0x00000004#32, 0xFFFFFFEF#32)
  | .ciphXform => (0x00000005#32, 0xFFFFFFFF#32)
  | .seqStart => (0x00000006#32, 0xFFFFFFFF#32)

/-- The command's word has the fixed bits of its row. -/
def TableRow.Statement (i : Instr) : Prop :=
  encodeCommand i &&& (tableRow i).2 = (tableRow i).1

/-- CRC.INIT, in either mode. -/
theorem TableRow.crcInit (mode : Mode) : TableRow.Statement (.crcInit mode) := by
  unfold TableRow.Statement; cases mode <;> decide

/-- CRC.ACC. -/
theorem TableRow.crcAcc : TableRow.Statement .crcAcc := by unfold TableRow.Statement; decide

/-- CRC.FIN. -/
theorem TableRow.crcFin : TableRow.Statement .crcFin := by unfold TableRow.Statement; decide

/-- CIPH.INIT, in either mode. -/
theorem TableRow.ciphInit (mode : Mode) : TableRow.Statement (.ciphInit mode) := by
  unfold TableRow.Statement; cases mode <;> decide

/-- CIPH.XFORM. -/
theorem TableRow.ciphXform : TableRow.Statement .ciphXform := by unfold TableRow.Statement; decide

/-- SEQ.START. -/
theorem TableRow.seqStart : TableRow.Statement .seqStart := by unfold TableRow.Statement; decide

end Sys2Proof.Laws
end

