-- ==== Sys2Proof/Laws/Step.lean ====
section
/-! SUPPORT. What each shared operation can do, said once: a step by its turn, a host access, a command, a turn
of SEQ, a tick. -/

namespace Sys2Proof.Machine

/-- With no turn left, no agent moves. -/
theorem step_nil {s : State} (h : s.schedule = []) : step s = .next s := by
  simp only [step, machineStep, h]

/-- A step is the next turn, run in the state in which it is taken. -/
theorem step_cons {s : State} {t : Turn} {turns : List Turn} (h : s.schedule = t :: turns) :
    step s = runTurn t { s with schedule := turns } := by
  simp only [step, machineStep, h, popTurn, List.tail_cons]

/-- Every step is a stutter or a turn. -/
theorem step_cases (s : State) :
    (s.schedule = [] ∧ step s = .next s) ∨
    ∃ t turns, s.schedule = t :: turns ∧ step s = runTurn t { s with schedule := turns } := by
  cases h : s.schedule with
  | nil => exact .inl ⟨rfl, step_nil h⟩
  | cons t turns => exact .inr ⟨t, turns, rfl, step_cons h⟩

/-- Every register is found at its offset (10_state.md section 8). -/
@[simp] theorem regAt_offset (r : Reg) : regAt (regOffset r) = some r := by
  cases r <;> decide

/-- A register found at an offset has that offset. -/
theorem regOffset_of_regAt {o : Nat} {r : Reg} (h : regAt o = some r) : regOffset r = o := by
  have := List.find?_some h
  simpa using this

/-- Reading at a register's offset reads the register. -/
@[simp] theorem readOffset_offset (r : Reg) (s : State) : readOffset (regOffset r) s = readReg r s := by
  simp [readOffset]

/-- No register lies at 0x54 or above (20_memory.md R38). -/
theorem regAt_reserved {o : Nat} (h : 0x54 ≤ o) : regAt o = none := by
  cases hr : regAt o with
  | none => rfl
  | some r =>
    have := regOffset_of_regAt hr
    cases r <;> simp only [regOffset] at this <;> omega

/-- An access inside the contract is not refused (20_memory.md R35). -/
theorem accessRefusal_none {o : Nat} (h1 : o < 0x100) (h2 : o % 4 = 0) : accessRefusal .word o = none := by
  simp [accessRefusal, h2, Nat.not_le.mpr h1]

/-- An access is refused exactly outside the contract (20_memory.md R35). -/
theorem accessRefusal_eq_none_iff (w : Width) (o : Nat) :
    accessRefusal w o = none ↔ w.admits o = true := by
  unfold accessRefusal Width.admits
  cases w <;> simp
  by_cases h1 : 0x100 ≤ o
  · simp [h1, Nat.not_lt.mpr h1]
  · simp [h1, Nat.not_le.mp h1]

/-- Every command completes, whatever the state: MBCORE never traps (60_exceptions.md R104). -/
theorem exec_next (i : Instr) (s : State) : ∃ t, exec i s = .next t := by
  cases i <;>
    simp only [exec, execCrcInit, execCrcAcc, execCrcFin, execCiphInit, execCiphXform, execSeqStart] <;>
    try (split <;> exact ⟨_, rfl⟩)
  all_goals exact ⟨_, rfl⟩

/-- What no command touches: OPA, OPB, and everything outside the CMDSTAT, RESULT, CKS, KSC and SEQ registers
(30_encoding.md R59). -/
theorem exec_frame {i : Instr} {s t : State} (h : exec i s = .next t) :
    t.opa = s.opa ∧ t.opb = s.opb ∧ t.trace = s.trace ∧ t.params = s.params ∧ t.linkMode = s.linkMode ∧
      t.payload = s.payload ∧ t.hostProgram = s.hostProgram ∧ t.hostReads = s.hostReads ∧
      t.schedule = s.schedule := by
  cases i <;>
    simp only [exec, execCrcInit, execCrcAcc, execCrcFin, execCiphInit, execCiphXform, execSeqStart,
      failCommand_eq] at h <;>
    (try split at h) <;> cases h <;> simp

/-- A write to CMD executes the command its word decodes to, or fails with the word's code (30_encoding.md
R63). -/
theorem writeCommand_cases (w : Word) (s : State) :
    (∃ i, w = encodeCommand i ∧ writeCommand w s = exec i s) ∨
    (∃ e, decodeCommand w = .error e ∧ writeCommand w s = .next (setCmdstat (fieldsOfWord w).op e s)) := by
  unfold writeCommand
  cases h : decodeCommand w with
  | ok i =>
    refine .inl ⟨i, ?_, rfl⟩
    rw [← wordOfFields_fieldsOfWord w, decodeFields_ok h]
    rfl
  | error e => exact .inr ⟨e, rfl, rfl⟩

/-- The word of a command executes it. -/
theorem writeCommand_encode (i : Instr) (s : State) : writeCommand (encodeCommand i) s = exec i s := by
  have h : decodeCommand (encodeCommand i) = .ok i := by
    simp only [decodeCommand, encodeCommand, fieldsOfWord_wordOfFields, decodeFields_encode]
  simp only [writeCommand, h]

/-- A write of a word inside the window: CMD, OPA and OPB take it, no other offset does (20_memory.md R37). -/
theorem writeOffset_eq (o : Nat) (v : Word) (s : State) :
    writeOffset o v s =
      if o = 0x00 then writeCommand v s
      else if o = 0x04 then .next { s with opa := v }
      else if o = 0x08 then .next { s with opb := v }
      else .next s := by
  unfold writeOffset
  cases hr : regAt o with
  | none =>
    have hne : ∀ r : Reg, o ≠ regOffset r := fun r hr' => by simp [hr'] at hr
    have h0 := hne .cmd
    have h1 := hne .opa
    have h2 := hne .opb
    simp only [regOffset] at h0 h1 h2
    simp [h0, h1, h2]
  | some r =>
    have := regOffset_of_regAt hr
    subst this
    cases r <;> simp [regOffset]

/-- A turn of the host: no line is left, or its line is refused, reads, or writes (20_memory.md R35 to R37;
30_encoding.md R64). -/
theorem hostTurn_cases (s : State) :
    (s.hostProgram = [] ∧ hostTurn s = .next s) ∨
    (∃ l lines r, s.hostProgram = l :: lines ∧ l.wellFormed = false ∧ hostTurn s = .refused r) ∨
    (∃ l lines o, s.hostProgram = l :: lines ∧ l.wellFormed = true ∧
      (hostTurn s = .next (readAccess o s) ∨
       hostTurn s = .next (readAccess o { s with hostProgram := lines }))) ∨
    (∃ o v lines, s.hostProgram = .bus (.write .word o v) :: lines ∧ o < 0x100 ∧ o % 4 = 0 ∧
      hostTurn s = writeOffset o v { s with hostProgram := lines }) := by
  cases hp : s.hostProgram with
  | nil => exact .inl ⟨rfl, by simp [hostTurn, hp]⟩
  | cons l lines =>
    have hpop : popLine s = { s with hostProgram := lines } := by simp [popLine, hp]
    right
    cases l with
    | bus op =>
      cases op with
      | write w o v =>
        cases hr : accessRefusal w o with
        | some r =>
          refine .inl ⟨_, _, r, rfl, ?_, by simp [hostTurn, hp, busAccess, hr]⟩
          have hn : ¬w.admits o = true := fun h => by simp [(accessRefusal_eq_none_iff w o).mpr h] at hr
          simpa [HostLine.wellFormed, BusOp.wellFormed] using hn
        | none =>
          have hn := (accessRefusal_eq_none_iff w o).mp hr
          have hn' := hn
          simp only [Width.admits, Bool.and_eq_true, decide_eq_true_eq] at hn'
          obtain ⟨⟨rfl, h1⟩, h2⟩ := hn'
          exact .inr (.inr ⟨o, v, lines, rfl, h1, h2, by simp [hostTurn, hp, busAccess, hr, hpop]⟩)
      | read w o =>
        cases hr : accessRefusal w o with
        | some r =>
          refine .inl ⟨_, _, r, rfl, ?_, by simp [hostTurn, hp, busAccess, hr]⟩
          have hn : ¬w.admits o = true := fun h => by simp [(accessRefusal_eq_none_iff w o).mpr h] at hr
          simpa [HostLine.wellFormed, BusOp.wellFormed] using hn
        | none =>
          exact .inr (.inl ⟨_, lines, o, rfl, (accessRefusal_eq_none_iff w o).mp hr,
            .inr (by simp [hostTurn, hp, busAccess, hr, hpop])⟩)
    | poll o mask value =>
      cases hr : accessRefusal .word o with
      | some r =>
        refine .inl ⟨_, _, r, rfl, ?_, by simp [hostTurn, hp, hr]⟩
        have hn : ¬Width.word.admits o = true := fun h => by
          simp [(accessRefusal_eq_none_iff .word o).mpr h] at hr
        simpa [HostLine.wellFormed] using hn
      | none =>
        refine .inr (.inl ⟨_, lines, o, rfl, (accessRefusal_eq_none_iff .word o).mp hr, ?_⟩)
        by_cases hv : readOffset o s &&& mask = value
        · exact .inr (by simp [hostTurn, hp, hr, hpop, hv])
        · exact .inl (by simp [hostTurn, hp, hr, hv])

/-- A turn of SEQ: nothing (no step is enabled), a step without a transaction, or an answered transaction
(60_exceptions.md R105). -/
theorem seqTurn_cases (ans : Option LinkAnswer) (s : State) :
    (linkRequest s = none ∧ seqTurn ans s = seqLocalStep s) ∨
    (∃ q, linkRequest s = some q ∧ ans = none ∧ seqTurn ans s = s) ∨
    (∃ q r, linkRequest s = some q ∧ ans = some r ∧ seqTurn ans s = seqTransact q r s) := by
  unfold seqTurn
  cases hq : linkRequest s with
  | none => exact .inl ⟨rfl, rfl⟩
  | some q =>
    cases ans with
    | none => exact .inr (.inl ⟨q, rfl, rfl, rfl⟩)
    | some r => exact .inr (.inr ⟨q, r, rfl, rfl, rfl⟩)

/-- A transaction ends the session by a transport error, or takes the step's own effect after its LINK event
(42_sequencer.md R99). -/
theorem seqTransact_cases (q : LinkRequest) (r : LinkAnswer) (s : State) :
    (∃ code d, r = .err code d ∧ s.params.xportErrPolicy = .abort ∧ (∀ im n, q ≠ .sendBulk im n) ∧
      seqTransact q r s = transportAbort code (emit (q.event r) s)) ∨
    (requestAbort s.params.xportErrPolicy q r = none ∧
      seqTransact q r s = seqLinkStep r (emit (q.event r) s)) := by
  cases q <;> cases r <;> cases hp : s.params.xportErrPolicy <;>
    simp [seqTransact, requestAbort, abortCode, hp]

/-- A tick counts the wait down or does nothing (42_sequencer.md R93). -/
theorem tickTurn_cases (s : State) :
    (s.seqState = .awaitingAck .wait ∧ 0 < s.seqWait.toNat ∧
      tickTurn s = { s with seqWait := s.seqWait - 1#32 }) ∨
    tickTurn s = s := by
  unfold tickTurn
  split
  · next h => exact .inl ⟨h.1, h.2, rfl⟩
  · exact .inr rfl

end Sys2Proof.Machine
end

