-- ==== Sys2Proof/Laws/Runs.lean ====
section
/-! SUPPORT. Runs of several steps, one step or one batch of steps at a time. -/

namespace Sys2Proof.Safety

open Sys2Proof.Machine

/-- A run is a step, then the rest of the run. -/
theorem runSteps_succ_of_next {s t : State} (h : step s = .next t) (k : Nat) :
    runSteps (k + 1) s = runSteps k t := by
  simp only [runSteps, h]

/-- A run of one step is that step. -/
theorem runSteps_one (s : State) : runSteps 1 s = step s := by
  simp only [runSteps]
  cases step s <;> rfl

/-- A run can be cut in two. -/
theorem runSteps_add : ∀ (k m : Nat) {s t : State}, runSteps k s = .next t →
    runSteps (k + m) s = runSteps m t
  | 0, m, s, t, h => by
    cases h
    rw [Nat.zero_add]
  | k + 1, m, s, t, h => by
    rw [Nat.succ_add_eq_add_succ, Nat.add_succ]
    simp only [runSteps] at h ⊢
    cases hs : step s with
    | next u => rw [hs] at h; exact runSteps_add k m h
    | fault r => rw [hs] at h; cases h
    | refused r => rw [hs] at h; cases h

/-- What a run keeps if each step does: an invariant of every step holds at the end of every run. -/
theorem runSteps_keeps {P : State → Prop} (hstep : ∀ s t, P s → step s = .next t → P t) :
    ∀ (k : Nat) {s t : State}, P s → runSteps k s = .next t → P t
  | 0, s, t, hs, h => by cases h; exact hs
  | k + 1, s, t, hs, h => by
    simp only [runSteps] at h
    cases hu : step s with
    | next u => rw [hu] at h; exact runSteps_keeps hstep k (hstep s u hs hu) h
    | fault r => rw [hu] at h; cases h
    | refused r => rw [hu] at h; cases h

end Sys2Proof.Safety
end

