-- ==== Sys2Proof/Tests/Slice0.lean ====
section
/-! SUPPORT. Tests whose expected values are written out in the spec (the source of each is named: a vector
of 95_test_vectors.md, or a rule), the smoke test of WellFormed, and for every statement with hypotheses a
state that meets them. -/

namespace Sys2Proof.Tests

open Sys2Proof.Machine Sys2Proof.Safety

/-- Parameters for tests: keys 1 and 2, a one-byte image, a wait of one tick. -/
def params : Params where
  keyP2P := 1#32
  keySH := 2#32
  xportErrPolicy := .abort
  imageLen := 1#32
  image := [0#8]
  ackWaitTicks := 1

/-- The machine after reset, with the tests' parameters. -/
def base : State := { State.reset with params := params }

/-- The machine with one turn to come. -/
def withTurn (t : Turn) (s : State) : State := { s with schedule := [t] }

/-- The machine with one line for the host and the host's turn to come. -/
def withLine (l : HostLine) (s : State) : State := { s with schedule := [.host], hostProgram := [l] }

/-- What a function of the next state gives. -/
def after {α : Type} (o : Host.Outcome State Fault Refusal) (f : State → α) : Option α :=
  match o with
  | .next s => some (f s)
  | .fault _ => none
  | .refused _ => none

/-! ## Smoke test of WellFormed -/

/-- OP = 0 and OP = 7 are not listed (30_encoding.md R62). -/
theorem test_wellFormed_op : ({ op := 0#4, mode := 0#1, rsv := 0#27 } : Cmd32).wellFormed = false ∧
    ({ op := 7#4, mode := 0#1, rsv := 0#27 } : Cmd32).wellFormed = false := by decide

/-- RSV must be 0 (R61). -/
theorem test_wellFormed_rsv : ({ op := 1#4, mode := 0#1, rsv := 1#27 } : Cmd32).wellFormed = false := by decide

/-- MODE must be 0 on CRC.ACC, and is free on CIPH.INIT (R60). -/
theorem test_wellFormed_mode : ({ op := 2#4, mode := 1#1, rsv := 0#27 } : Cmd32).wellFormed = false ∧
    ({ op := 4#4, mode := 1#1, rsv := 0#27 } : Cmd32).wellFormed = true := by decide

/-- A narrow, a misaligned and an out-of-window access (20_memory.md R35), each refused by its name. -/
theorem test_wellFormed_access : (BusOp.read .byte 0x04).wellFormed = false ∧
    (BusOp.read .word 0x06).wellFormed = false ∧ (BusOp.write .word 0x100 0#32).wellFormed = false ∧
    (BusOp.read .word 0xFC).wellFormed = true ∧ (HostLine.poll 0x101 0#32 0#32).wellFormed = false ∧
    accessRefusal .byte 0x04 = some .narrowHostAccess ∧
    accessRefusal .word 0x06 = some .misalignedHostAccess ∧
    accessRefusal .word 0x100 = some .hostAccessOutsideWindow := by decide

/-- Equal keys and an image of the wrong length are no legal parameters (00_scope.md R5, R7). -/
theorem test_wellFormed_params : params.wellFormed = true ∧
    ({ params with keySH := 1#32 } : Params).wellFormed = false ∧
    ({ params with image := [] } : Params).wellFormed = false := by decide

/-! ## Decoding: words written bit by bit from 30_encoding.md R57 and R58 -/

/-- OP = 0001, MODE = 1, RSV = 0 (R58). -/
theorem test_decode_crcInit_p2p :
    decodeCommand 0b00000000000000000000000000010001#32 = .ok (.crcInit .peerToPeer) := by decide

/-- OP = 0001, MODE = 0, RSV = 0 (R58). -/
theorem test_decode_crcInit_sh :
    decodeCommand 0b00000000000000000000000000000001#32 = .ok (.crcInit .singleHost) := by decide

/-- OP = 0010 (R58). -/
theorem test_decode_crcAcc :
    decodeCommand 0b00000000000000000000000000000010#32 = .ok .crcAcc := by decide

/-- OP = 0011 (R58). -/
theorem test_decode_crcFin :
    decodeCommand 0b00000000000000000000000000000011#32 = .ok .crcFin := by decide

/-- OP = 0100, MODE = 1 (R58). -/
theorem test_decode_ciphInit_p2p :
    decodeCommand 0b00000000000000000000000000010100#32 = .ok (.ciphInit .peerToPeer) := by decide

/-- OP = 0100, MODE = 0 (R58). -/
theorem test_decode_ciphInit_sh :
    decodeCommand 0b00000000000000000000000000000100#32 = .ok (.ciphInit .singleHost) := by decide

/-- OP = 0101 (R58). -/
theorem test_decode_ciphXform :
    decodeCommand 0b00000000000000000000000000000101#32 = .ok .ciphXform := by decide

/-- OP = 0110 (R58). -/
theorem test_decode_seqStart :
    decodeCommand 0b00000000000000000000000000000110#32 = .ok .seqStart := by decide

/-- T-DEC-1 to T-DEC-4: reserved opcodes, which win over RSV and MODE. -/
theorem test_decode_illegal : decodeCommand 0x00000000#32 = .error .illegalOp ∧
    decodeCommand 0x00000007#32 = .error .illegalOp ∧ decodeCommand 0xFFFFFFFF#32 = .error .illegalOp ∧
    decodeCommand 0x00000017#32 = .error .illegalOp := by decide

/-- T-DEC-5, T-CKS-E3, T-CKS-E4, T-KSC-E3, T-SEQ-B3: reserved bits. -/
theorem test_decode_rsvdBits : decodeCommand 0x00000022#32 = .error .rsvdBits ∧
    decodeCommand 0x00000012#32 = .error .rsvdBits ∧ decodeCommand 0x00000021#32 = .error .rsvdBits ∧
    decodeCommand 0x80000004#32 = .error .rsvdBits ∧
    decodeCommand 0x00000016#32 = .error .rsvdBits := by decide

/-- The bits of a table word are the command word's bits (30_encoding.md R57). -/
theorem test_decodeTableWord : decodeTableWord 32 0x11 = some (.crcInit .peerToPeer) ∧
    decodeTableWord 32 0x06 = some .seqStart ∧ decodeTableWord 32 0x12 = none := by decide

/-- The next step after reset runs the word placed by `withFetchWord`: T-DEC-6. -/
theorem test_withFetchWord : after (step (State.reset.withFetchWord 32 0x11))
    (fun s => (readReg .cmdstat s, readReg .cksCtl s)) = some (0x00000010#32, 0x00000003#32) := by decide

/-! ## CKS -/

/-- T-CKS-I1. -/
theorem test_crcInit_p2p : after (exec (.crcInit .peerToPeer) { base with opa := 0x12#32, opb := 0x34#32 })
    (fun s => (s.cksAcc, s.cksPoly, s.cksHh, s.cksHl, readReg .cksCtl s, readReg .cmdstat s)) =
    some (0xFFF8#16, 0xA517#16, 0x12#32, 0x34#32, 0x3#32, 0x10#32) := by decide

/-- T-CKS-I2 after T-CKS-I1: the whole state is replaced, MODE included. -/
theorem test_crcInit_sh : after (exec (.crcInit .singleHost)
      { base with opa := 0x12#32, opb := 0x34#32, cksMode := .peerToPeer, cksV := true, cksAcc := 0xFFF8#16 })
    (fun s => (s.cksAcc, s.cksPoly, readReg .cksCtl s, s.result)) =
    some (0xC387#16, 0xC37B#16, 0x1#32, 0#32) := by decide

/-- T-CKS-A5, peer-to-peer column: RESULT is the accumulator, zero-extended. -/
theorem test_crcAcc : after (exec .crcAcc
      { base with opa := 0x12345678#32, cksV := true, cksPoly := 0xA517#16, cksAcc := 0xFFF8#16 })
    (fun s => (s.cksAcc, s.result, readReg .cmdstat s)) = some (0x31B7#16, 0x31B7#32, 0x20#32) := by decide +kernel

/-- T-CKS-E1. -/
theorem test_crcAcc_notInit : after (exec .crcAcc { base with opa := 1#32 })
    (fun s => (readReg .cmdstat s, s.result, s.cksAcc)) = some (0x23#32, 0#32, 0#16) := by decide

/-- T-CKS-P1: the finalize of program P1, from the accumulator of T-CKS-M3. -/
theorem test_crcFin : after (exec .crcFin
      { base with opa := 0xFF00#32, cksV := true, cksPoly := 0xA517#16, cksAcc := 0x0549#16
                  cksHh := 0x12#32, cksHl := 0x34#32 })
    (fun s => (s.cksAcc, s.result, s.cksV)) = some (0xCF7C#16, 0xCF7C#32, true) := by decide +kernel

/-- T-CKS-F7: the sum with headerHigh wraps. -/
theorem test_crcCompose_wraps : crcCompose 0xFFFFFFFF#32 0xFFFFFFFF#32 0xFFFFFFFF#32 = 0xFFFFFEFF#32 := by decide

/-! ## KSC -/

/-- T-KSC-I2: CIPH.INIT does not advance the seed. -/
theorem test_ciphInit : after (exec (.ciphInit .peerToPeer) { base with opa := 0xC1#32 })
    (fun s => (s.kscSeed, s.kscKey, readReg .kscCtl s, readReg .cmdstat s)) =
    some (0xC1#32, 1#32, 0x3#32, 0x40#32) := by decide

/-- T-KSC-X3, with the key 0: the advanced seed masks the data. -/
theorem test_ciphXform : after (exec .ciphXform
      { base with opa := 0x11111111#32, opb := 0xC0#32, kscV := true, kscSeed := 0xC1#32 })
    (fun s => (s.kscSeed, s.result)) = some (0xFAB07BB4#32, 0x165E95E5#32) := by decide

/-- T-KSC-E1. -/
theorem test_ciphXform_notInit : after (exec .ciphXform base)
    (fun s => (readReg .cmdstat s, s.kscSeed, s.result)) = some (0x53#32, 0#32, 0#32) := by decide

/-! ## SEQ -/

/-- T-SEQ-1. -/
theorem test_seqStart : after (exec .seqStart { base with opa := 64#32, opb := 0x1000#32 })
    (fun s => (readReg .seqStat s, s.seqLen, s.seqBase, readReg .cmdstat s)) =
    some (0x1001#32, 0x40#32, 0x1000#32, 0x60#32) := by decide

/-- T-SEQ-B1: a session in AWAITING_ACK/PROBE_W goes on. -/
theorem test_seqStart_busy : after (exec .seqStart { base with opa := 8#32, seqState := .awaitingAck .probeW })
    (fun s => (readReg .cmdstat s, s.seqState, s.seqLen)) =
    some (0x64#32, .awaitingAck .probeW, 0#32) := by decide

/-- Source example S1, at a base that makes the addresses wrap (20_memory.md R40): bytes 01 02 03 04 give the
word 0x04030201. -/
theorem test_streamWord : after (step (withTurn (.seq (some (.ok 0#32)))
      { base with seqState := .streaming, seqLen := 8#32, seqBase := 0xFFFFFFFE#32
                  payload := [(0, 3#8), (1, 4#8), (0xFFFFFFFE, 1#8), (0xFFFFFFFF, 2#8)] }))
    (fun s => (s.seqLastw, s.seqWcnt, s.trace)) =
    some (0x04030201#32, 1#32, [.linkWriteWord 0x04030201#32, .progress 4 8#32 0x04030201#32]) := by decide

/-- Source example S2: 64 bytes announce 16 words. -/
theorem test_announce : after (step (withTurn (.seq (some (.ok 0#32)))
      { base with seqState := .announcingSize, seqLen := 64#32 })) (fun s => s.trace) =
    some [.linkWriteWord 16#32] := by decide

/-- The end states of T-SEQ-2 and T-SEQ-3 as SEQ_STAT reads: DONE with VMATCH, and FAILED. -/
theorem test_seqStat :
    seqStatWord { base with seqState := .done, seqCode := .ok, seqVmatch := true } = 0x905#32 ∧
    seqStatWord { base with seqState := .failed, seqCode := .precondition } = 0x206#32 := by decide

/-- T-SEQ-E2: a read answered ERR under ABORT is not counted, and its event carries the answer. -/
theorem test_readError : after (step (withTurn (.seq (some (.err 7#32 0xFA57B007#32)))
      { base with seqState := .awaitingAck .probeR }))
    (fun s => (readReg .seqStat s, s.seqTerr, s.seqAtt, s.trace)) =
    some (0x406#32, 7#32, 0#5, [.linkReadWord (.err 7#32 0xFA57B007#32)]) := by decide

/-! ## The payload -/

/-- A byte of the value an unlisted address reads as is not listed, and cells stay sorted. -/
theorem test_writeByte : Memory.writeByte (Memory.writeByte [(4, 1#8)] 2 7#8) 4 0#8 = [(2, 7#8)] ∧
    Memory.readByte [(2, 7#8)] 2 = 7#8 ∧ Memory.readByte [(2, 7#8)] 3 = 0#8 := by decide

/-! ## States that meet the statements' hypotheses -/

/-- Reads of 0 do not return the probe. -/
theorem reads_miss (n : Nat) : ∀ p ∈ List.replicate n ((0#32, 0#32) : Word × Word), p.2 ≠ 0xFA57B007#32 := by
  intro p hp
  rw [(List.mem_replicate.mp hp).2]
  decide

/-- The tests' wait fits SEQ_WAIT. -/
theorem ticks_small : params.ackWaitTicks < 2 ^ 32 := by
  have h : params.ackWaitTicks = 1 := rfl
  rw [h]
  norm_num

/-- `StepRunsDecodedCommand`. -/
theorem meets_StepRunsDecodedCommand :
    (∃ (s : State) (w : Word) (i : Instr) (turns : List Turn) (lines : List HostLine), s.schedule = .host :: turns ∧
      s.hostProgram = .bus (.write .word 0x00 w) :: lines ∧ decodeCommand w = .ok i) ∧
    decodeTableWord 32 5 = some .ciphXform :=
  ⟨⟨withLine (.bus (.write .word 0 0x11#32)) base, 0x11#32, .crcInit .peerToPeer, [], [], rfl, rfl, by decide⟩,
    by decide⟩

/-- `CommandWriteFollowsDecode`: each code is reported somewhere. -/
theorem meets_CommandWriteFollowsDecode : reportedErr 0x14#32 base = .ok ∧
    reportedErr 0x17#32 base = .illegalOp ∧ reportedErr 0x80000001#32 base = .rsvdBits ∧
    reportedErr 0x15#32 base = .rsvdBits ∧ reportedErr 5#32 base = .notInit ∧
    reportedErr 6#32 { base with seqState := .streaming } = .seqBusy := by decide

/-- `FailedCommandChangesOnlyCmdstat`. -/
theorem meets_FailedCommandChangesOnlyCmdstat :
    ∃ t, writeCommand 0x02#32 base = .next t ∧ t.cmdErr ≠ .ok :=
  ⟨_, rfl, by decide⟩

/-- `HostReadReturnsRegister`, at the ends of the window's ranges, and two reads in a row. -/
theorem meets_HostReadReturnsRegister : ∀ o ∈ [0x00, 0x50, 0x54, 0xFC],
    (withLine (.bus (.read .word o)) base).schedule = [.host] ∧
    (withLine (.bus (.read .word o)) base).hostProgram = [.bus (.read .word o)] ∧ o < 0x100 ∧ o % 4 = 0 := by
  decide

/-- `HostWriteEffects`, at each clause's offsets. -/
theorem meets_HostWriteEffects : ∀ o ∈ [0x00, 0x04, 0x08, 0x0C, 0xFC],
    (withLine (.bus (.write .word o 1#32)) base).schedule = [.host] ∧
    (withLine (.bus (.write .word o 1#32)) base).hostProgram = [.bus (.write .word o 1#32)] ∧
    o < 0x100 ∧ o % 4 = 0 := by
  decide

/-- `ReservedOffsetsInert`, at both ends of the range. -/
theorem meets_ReservedOffsetsInert : ∀ o ∈ [0x54, 0xFC], 0x54 ≤ o ∧ o ≤ 0xFC ∧ o % 4 = 0 ∧
    (withLine (.bus (.read .word o)) base).hostProgram = [.bus (.read .word o)] ∧
    (withLine (.bus (.write .word o 9#32)) base).hostProgram = [.bus (.write .word o 9#32)] := by
  decide

/-- `OnlyOutsideAccessesRefused`: a step of each kind. -/
theorem meets_OnlyOutsideAccessesRefused :
    (∃ t, step (withLine (.bus (.read .word 0xFC)) base) = .next t) ∧
    (∃ r, step (withLine (.bus (.read .half 0x04)) base) = .refused r) :=
  ⟨⟨_, rfl⟩, ⟨_, rfl⟩⟩

/-- `PollRepeatsUntilMatch`: both clauses, with the condition of SEQ.WAITIDLE. -/
theorem meets_PollRepeatsUntilMatch :
    (withLine (linePOLL .seqStat 0x1000#32 0#32) base).hostProgram = [.poll (regOffset .seqStat) 0x1000#32 0#32] ∧
    readReg .seqStat base &&& 0x1000#32 = 0#32 ∧
    readReg .seqStat { base with seqState := .streaming } &&& 0x1000#32 ≠ 0#32 := by decide

/-- `PseudoInstructionsRunCommands`: each pseudo-instruction's lines and turns. -/
theorem meets_PseudoInstructionsRunCommands (p : Pseudo) : ∃ s : State,
    s.schedule = List.replicate (expandPseudo p).length .host ++ [] ∧ s.hostProgram = expandPseudo p ++ [] :=
  ⟨{ base with
      schedule := List.replicate (expandPseudo p).length .host ++ []
      hostProgram := expandPseudo p ++ [] }, rfl, rfl⟩

/-- `OperandsChangeOnlyByHostWrites`: a host write that changes OPA, and one that changes OPB. -/
theorem meets_OperandsChangeOnlyByHostWrites :
    (∃ t, step (withLine (lineWR .opa 7#32) base) = .next t ∧ t.opa ≠ base.opa) ∧
    (∃ t, step (withLine (lineWR .opb 7#32) base) = .next t ∧ t.opb ≠ base.opb) :=
  ⟨⟨_, rfl, by decide⟩, ⟨_, rfl, by decide⟩⟩

/-- `ResultWrittenOnlyByItsCommands`: a CRC.ACC that changes RESULT. -/
theorem meets_ResultWrittenOnlyByItsCommands : after (step (withLine (lineWR .cmd 2#32)
      { base with cksV := true, cksPoly := 0xA517#16, cksAcc := 0xFFF8#16 }))
    (fun s => (s.result, s.cmdErr)) = some (0x0749#32, .ok) := by decide +kernel

/-- `CrcInitCompletes` and `CiphInitCompletes`: words of each clause. -/
theorem meets_InitWords : 0x11#32 &&& 0xFFFFFFEF#32 = 0x1#32 ∧ 0x01#32 &&& 0xFFFFFFEF#32 = 0x1#32 ∧
    (0x80000001#32 &&& 0xF#32 = 0x1#32 ∧ 0x80000001#32 &&& 0xFFFFFFEF#32 ≠ 0x1#32) ∧
    0x14#32 &&& 0xFFFFFFEF#32 = 0x4#32 ∧ 0x04#32 &&& 0xFFFFFFEF#32 = 0x4#32 ∧
    (0x24#32 &&& 0xF#32 = 0x4#32 ∧ 0x24#32 &&& 0xFFFFFFEF#32 ≠ 0x4#32) := by decide

/-- `CrcAccCompletes`, `CrcFinCompletes`, `CiphXformCompletes`, `SeqStartCompletes`: rejected words of each, at
the lowest and highest bit, and states of each clause. -/
theorem meets_CommandClauses : (0x12#32 &&& 0xF#32 = 0x2#32 ∧ 0x12#32 ≠ 0x2#32 ∧
      0x80000002#32 &&& 0xF#32 = 0x2#32 ∧ 0x80000002#32 ≠ 0x2#32) ∧
    (0x13#32 &&& 0xF#32 = 0x3#32 ∧ 0x13#32 ≠ 0x3#32 ∧
      0x80000003#32 &&& 0xF#32 = 0x3#32 ∧ 0x80000003#32 ≠ 0x3#32) ∧
    (0x15#32 &&& 0xF#32 = 0x5#32 ∧ 0x15#32 ≠ 0x5#32 ∧
      0x80000005#32 &&& 0xF#32 = 0x5#32 ∧ 0x80000005#32 ≠ 0x5#32) ∧
    (0x16#32 &&& 0xF#32 = 0x6#32 ∧ 0x16#32 ≠ 0x6#32 ∧
      0x80000006#32 &&& 0xF#32 = 0x6#32 ∧ 0x80000006#32 ≠ 0x6#32) ∧
    base.cksV = false ∧ base.kscV = false ∧ ({ base with cksV := true } : State).cksV = true ∧
    ({ base with kscV := true } : State).kscV = true ∧ base.seqState = .idle ∧
    ({ base with seqState := .done } : State).seqState = .done ∧
    ({ base with seqState := .failed } : State).seqState = .failed ∧
    ({ base with seqState := .announcingSize } : State).seqState = .announcingSize :=
  ⟨by decide, by decide, by decide, by decide, rfl, rfl, rfl, rfl, rfl, rfl, rfl, rfl⟩

/-- `ChecksumSingleBitChanges`: commands before and after a change of one bit. -/
theorem meets_ChecksumSingleBitChanges : ∃ s t u v : State, s.cksV = true ∧ s.cksPoly = 0xC37B#16 ∧
    exec .crcFin s = .next t ∧
    exec .crcFin { s with cksHh := s.cksHh ^^^ (1#32 <<< 31) } = .next u ∧
    exec .crcFin { s with cksHl := s.cksHl ^^^ (1#32 <<< 7) } = .next v :=
  ⟨{ base with cksV := true, cksPoly := 0xC37B#16 }, _, _, _, rfl, rfl, rfl, rfl, rfl⟩

/-- `StreamPositionIsOnlyTheSeed`, `ConsecutiveMasksDiffer` and `XformDependsOnlyOnCipherState`. -/
theorem meets_CipherStatements : ∃ s t u : State, s.kscV = true ∧ s.kscSeed = 0x5E959C4E#32 ∧
    exec .ciphXform { s with opa := 0#32, opb := 3#32 } = .next t ∧
    exec .ciphXform { t with opa := 0#32, opb := 7#32 } = .next u ∧ (3#32).toNat % 4 = (7#32).toNat % 4 :=
  ⟨{ base with kscV := true, kscSeed := 0x5E959C4E#32 }, _, _, rfl, rfl, rfl, rfl, by decide⟩

/-- `CipherReplayDecodes`: two different states of machines with the same keys. -/
theorem meets_CipherReplayDecodes : ∃ s s' : State, s'.params = s.params ∧ s' ≠ s :=
  ⟨base, { base with kscV := true }, rfl, by
    intro h
    exact absurd (congrArg State.kscV h) (by decide)⟩

/-- `SeqCheckStep` and `LinkModeReadOnlyAtCheck`: both link modes, and a state that reads neither. -/
theorem meets_SeqCheckStep : ∃ s t u : State,
    s.schedule = [.seq none] ∧ s.seqState = .sendingImage .check ∧ s.linkMode = .primitive ∧
    t.schedule = [.seq none] ∧ t.seqState = .sendingImage .check ∧ t.linkMode ≠ .primitive ∧
    u.schedule = [.seq none] ∧ u.seqState ≠ .sendingImage .check ∧ ∃ v, step u = .next v :=
  ⟨withTurn (.seq none) { base with seqState := .sendingImage .check },
    withTurn (.seq none) { base with seqState := .sendingImage .check, linkMode := .upgraded },
    withTurn (.seq none) base, rfl, rfl, rfl, rfl, rfl, by decide, rfl, by decide, _, rfl⟩

/-- `SeqBulkStep` and the last clause of `TransportErrorPolicy`, with a status that reports an error. -/
theorem meets_SeqBulkStep : ∃ s : State, s.schedule = [.seq (some (.err 1#32 0#32))] ∧
    s.seqState = .sendingImage .bulk :=
  ⟨withTurn (.seq (some (.err 1#32 0#32))) { base with seqState := .sendingImage .bulk }, rfl, rfl⟩

/-- `ProbeWriteStep`, `AnnounceSizeStep`, `StreamWordStep` and `TransportErrorPolicy`: an ERR answer under each
policy, in each state that writes a word. The stream stands at the last byte of its range. -/
theorem meets_WriteSteps :
    ∀ st ∈ [SeqState.awaitingAck .probeW, .announcingSize, .streaming], ∀ p ∈ [XportErrPolicy.abort, .ignore],
      ∃ (s : State) (w : Word), s.schedule = [.seq (some (.err 5#32 0#32))] ∧ s.seqState = st ∧
        s.params.xportErrPolicy = p ∧ 4 * s.seqWcnt.toNat < s.seqLen.toNat ∧
        linkRequest s = some (.writeWord w) := by
  intro st hst p hp
  refine ⟨withTurn (.seq (some (.err 5#32 0#32)))
    { base with
        seqState := st, seqLen := 5#32, seqWcnt := 1#32, params := { params with xportErrPolicy := p } },
    if st = .awaitingAck .probeW then probe else if st = .announcingSize then 1#32 else 0#32,
    rfl, rfl, rfl, (by decide : 4 * (1#32).toNat < (5#32).toNat), ?_⟩
  simp only [List.mem_cons, List.not_mem_nil, or_false] at hst
  simp only [List.mem_cons, List.not_mem_nil, or_false] at hp
  rcases hst with rfl | rfl | rfl <;> rcases hp with rfl | rfl <;> rfl

/-- `StreamWordStep`, with the bytes and the word it speaks of: the second word of five bytes, at a base whose
addresses wrap. -/
theorem meets_StreamWordStep : ∃ (s : State) (w : Word) (b : Nat → Byte),
    s.schedule = [.seq (some (.ok 0#32))] ∧ s.seqState = .streaming ∧ 4 * s.seqWcnt.toNat < s.seqLen.toNat ∧
    (∀ k, b k = Memory.readByte s.payload ((s.seqBase.toNat + 4 * s.seqWcnt.toNat + k) % 2 ^ 32)) ∧
    w = (b 0).setWidth 32 ||| ((b 1).setWidth 32 <<< 8) ||| ((b 2).setWidth 32 <<< 16) |||
      ((b 3).setWidth 32 <<< 24) ∧ b 0 = 9#8 :=
  ⟨withTurn (.seq (some (.ok 0#32)))
      { base with
        seqState := .streaming, seqLen := 5#32, seqWcnt := 1#32, seqBase := 0xFFFFFFFE#32, payload := [(2, 9#8)] },
    _, fun k => Memory.readByte [(2, 9#8)] (((0xFFFFFFFE#32).toNat + 4 * (1#32).toNat + k) % 2 ^ 32), rfl, rfl,
    (by decide : 4 * (1#32).toNat < (5#32).toNat), fun _ => rfl, rfl, by decide⟩

/-- `ProbeReadStep`: the probe and another word, answered OK and answered ERR under IGNORE; and a read under
ABORT for `TransportErrorPolicy`. -/
theorem meets_ProbeReadStep : ∃ s t u : State,
    s.schedule = [.seq (some (.ok 0xFA57B007#32))] ∧ s.seqState = .awaitingAck .probeR ∧
    t.schedule = [.seq (some (.err 7#32 0#32))] ∧ t.seqState = .awaitingAck .probeR ∧
    t.params.xportErrPolicy = .ignore ∧ t.params.ackWaitTicks < 2 ^ 32 ∧
    u.schedule = [.seq (some (.err 7#32 0#32))] ∧ linkRequest u = some .readWord ∧
    u.params.xportErrPolicy = .abort :=
  ⟨withTurn (.seq (some (.ok 0xFA57B007#32))) { base with seqState := .awaitingAck .probeR },
    withTurn (.seq (some (.err 7#32 0#32)))
      { base with seqState := .awaitingAck .probeR, params := { params with xportErrPolicy := .ignore } },
    withTurn (.seq (some (.err 7#32 0#32))) { base with seqState := .awaitingAck .probeR },
    rfl, rfl, rfl, rfl, rfl, by decide, rfl, rfl, rfl⟩

/-- `TickCountsTheWait`: a wait at 1, a wait at 0, and no wait. -/
theorem meets_TickCountsTheWait : ∃ s t u : State,
    s.schedule = [.tick] ∧ s.seqState = .awaitingAck .wait ∧ s.seqWait ≠ 0#32 ∧
    t.schedule = [.tick] ∧ ¬(t.seqState = .awaitingAck .wait ∧ t.seqWait ≠ 0#32) ∧
    u.schedule = [.tick] ∧ ¬(u.seqState = .awaitingAck .wait ∧ u.seqWait ≠ 0#32) :=
  ⟨withTurn .tick { base with seqState := .awaitingAck .wait, seqWait := 1#32 },
    withTurn .tick { base with seqState := .awaitingAck .wait }, withTurn .tick base,
    rfl, rfl, by decide, rfl, by decide, rfl, by decide⟩

/-- `WaitExpiryStep`: 15 attempts, 16 attempts, and a wait that still runs. -/
theorem meets_WaitExpiryStep : ∀ p ∈ [(0#32, 15#5), (0#32, 16#5), (1#32, 16#5)],
    ∃ s : State, s.schedule = [.seq none] ∧ s.seqState = .awaitingAck .wait ∧ s.seqWait = p.1 ∧
      s.seqAtt = p.2 :=
  fun p _ => ⟨withTurn (.seq none)
    { base with seqState := .awaitingAck .wait, seqWait := p.1, seqAtt := p.2 }, rfl, rfl, rfl, rfl⟩

/-- `StreamSendsCeilWords`: a length that is no multiple of 4, and the empty one. -/
theorem meets_StreamSendsCeilWords : ∃ s t : State,
    s.seqState = .streaming ∧ s.seqWcnt = 0#32 ∧ [0#32, 0#32].length = (s.seqLen.toNat + 3) / 4 ∧
    s.schedule = [0#32, 0#32].map (fun a => .seq (some (.ok a))) ++ .seq none :: [] ∧
    t.seqState = .streaming ∧ t.seqWcnt = 0#32 ∧ ([] : List Word).length = (t.seqLen.toNat + 3) / 4 ∧
    t.schedule = ([] : List Word).map (fun a => .seq (some (.ok a))) ++ .seq none :: [] :=
  ⟨{ base with
      seqState := .streaming, seqLen := 5#32
      schedule := [.seq (some (.ok 0#32)), .seq (some (.ok 0#32)), .seq none] },
    { base with seqState := .streaming, schedule := [.seq none] },
    rfl, rfl, by decide, rfl, rfl, rfl, by decide, rfl⟩

/-- `VerifyStep`: a last word that is the sentinel of length 4 (T-SEQ-11), one that is not, and no word. -/
theorem meets_VerifyStep : ∃ s t u : State,
    (s.schedule = [.seq none] ∧ s.seqState = .streaming ∧ s.seqLen.toNat ≤ 4 * s.seqWcnt.toNat ∧
      s.seqWcnt ≠ 0#32 ∧ s.seqLastw = 0x02000000#32 + s.seqLen - 4#32) ∧
    (t.schedule = [.seq none] ∧ t.seqState = .streaming ∧ t.seqLen.toNat ≤ 4 * t.seqWcnt.toNat ∧
      t.seqLastw ≠ 0x02000000#32 + t.seqLen - 4#32) ∧
    (u.schedule = [.seq none] ∧ u.seqState = .streaming ∧ u.seqLen.toNat ≤ 4 * u.seqWcnt.toNat ∧
      u.seqWcnt = 0#32) :=
  ⟨withTurn (.seq none)
      { base with seqState := .streaming, seqLen := 4#32, seqWcnt := 1#32, seqLastw := 0x02000000#32 },
    withTurn (.seq none) { base with seqState := .streaming, seqLen := 4#32, seqWcnt := 1#32 },
    withTurn (.seq none) { base with seqState := .streaming },
    ⟨rfl, rfl, by decide, by decide, by decide⟩, ⟨rfl, rfl, by decide, by decide⟩,
    ⟨rfl, rfl, by decide, rfl⟩⟩

/-- `TerminalStatesHaveNoStep`: each terminal state, at a tick and at a turn of SEQ. -/
theorem meets_TerminalStatesHaveNoStep : ∀ st ∈ [SeqState.done, .failed, .idle],
    ∀ t ∈ [Turn.tick, .seq none], ∃ s : State, s.schedule = [t] ∧ s.seqState = st :=
  fun st _ t _ => ⟨withTurn t { base with seqState := st }, rfl, rfl⟩

/-- `SeqBlocksWithoutAnswer`. -/
theorem meets_SeqBlocksWithoutAnswer : ∃ s : State, s.schedule = [.seq none] ∧ linkRequest s = some .readWord :=
  ⟨withTurn (.seq none) { base with seqState := .awaitingAck .probeR }, rfl, rfl⟩

/-- `RetriesEndAfterSixteen`: sixteen reads of 0. -/
theorem meets_RetriesEndAfterSixteen : ∃ (s : State) (reads : List (Word × Word)),
    s.seqState = .awaitingAck .probeW ∧ s.seqAtt = 0#5 ∧ s.params.ackWaitTicks < 2 ^ 32 ∧
    reads.length = 16 ∧ (∀ p ∈ reads, p.2 ≠ 0xFA57B007#32) ∧
    s.schedule = reads.flatMap (missTurns s.params.ackWaitTicks) ++ [] :=
  ⟨{ base with
      seqState := .awaitingAck .probeW
      schedule := (List.replicate 16 (0#32, 0#32)).flatMap (missTurns 1) ++ [] },
    List.replicate 16 (0#32, 0#32), rfl, rfl, ticks_small, rfl, reads_miss 16, rfl⟩

/-- `EchoStopsProbing`: an echo at the first attempt, and at the sixteenth. -/
theorem meets_EchoStopsProbing : ∀ k ∈ [0, 15], ∃ (s : State) (reads : List (Word × Word)),
    s.seqState = .awaitingAck .probeW ∧ s.seqAtt = 0#5 ∧ s.seqWait = 0#32 ∧
    s.params.ackWaitTicks < 2 ^ 32 ∧ reads.length = k ∧ reads.length < 16 ∧
    (∀ p ∈ reads, p.2 ≠ 0xFA57B007#32) ∧
    s.schedule = reads.flatMap (missTurns s.params.ackWaitTicks) ++
      [.seq (some (.ok 0#32)), .seq (some (.ok 0xFA57B007#32))] ++ [] := by
  intro k hk
  refine ⟨{ base with
      seqState := .awaitingAck .probeW
      schedule := (List.replicate k (0#32, 0#32)).flatMap (missTurns 1) ++
        [.seq (some (.ok 0#32)), .seq (some (.ok 0xFA57B007#32))] ++ [] },
    List.replicate k (0#32, 0#32), rfl, rfl, rfl, ticks_small, by simp, ?_, reads_miss k, rfl⟩
  simp only [List.mem_cons, List.not_mem_nil, or_false] at hk
  rcases hk with rfl | rfl <;> simp

/-- `SuccessfulSessionTrace`: two words and an echo at the second attempt. -/
theorem meets_SuccessfulSessionTrace : ∃ (s : State) (reads : List (Word × Word)) (answers : List Word),
    s.seqState.busy = false ∧ s.linkMode = .primitive ∧ s.params.ackWaitTicks < 2 ^ 32 ∧
    reads.length < 16 ∧ (∀ p ∈ reads, p.2 ≠ 0xFA57B007#32) ∧ s.opa.toNat = 4 * answers.length ∧
    s.schedule = [.seq none, .seq (some (.ok 0#32))] ++
      reads.flatMap (missTurns s.params.ackWaitTicks) ++
      [.seq (some (.ok 0#32)), .seq (some (.ok 0xFA57B007#32)), .seq (some (.ok 0#32))] ++
      answers.map (fun x => .seq (some (.ok x))) ++ .seq none :: [] :=
  ⟨{ base with
      opa := 8#32
      schedule := [.seq none, .seq (some (.ok 0#32))] ++ [(0#32, 0#32)].flatMap (missTurns 1) ++
        [.seq (some (.ok 0#32)), .seq (some (.ok 0xFA57B007#32)), .seq (some (.ok 0#32))] ++
        [0#32, 0#32].map (fun x => .seq (some (.ok x))) ++ .seq none :: [] },
    [(0#32, 0#32)], [0#32, 0#32], rfl, rfl, ticks_small, by decide, reads_miss 1, (rfl : (8#32).toNat = 4 * 2), rfl⟩

/-- The state right after a SEQ.START of 8 bytes. -/
def started : State := { base with opa := 8#32, seqLen := 8#32, seqState := .sendingImage .check }

/-- `EveryStepKeepsInvariant` and `SessionStepBound`: a running session meets the invariant. -/
theorem meets_Invariant : Invariant started ∧ started.seqState = .sendingImage .check ∧
    started.seqState.busy = true ∧ ∃ t, step (withTurn (.seq none) started) = .next t :=
  ⟨{ payload := ⟨List.Pairwise.nil, by decide⟩
     params := by decide
     cks := ⟨by decide, by decide⟩
     ksc := ⟨by decide, by decide⟩
     seq := ⟨by decide, by decide, by decide, by decide, by decide, by decide, by decide, by decide, by decide,
       by decide, by decide, by decide, by decide⟩ }, rfl, rfl, _, rfl⟩

/-- `OnlyTableEdges`, `HostLeavesSeqAlone`, `SessionIgnoresCommandSide`, `TraceIsAppendOnly`,
`ParametersNeverChange`: a step of SEQ, a session start by the host, a tick and a reset each give a next state. -/
theorem meets_StepStatements :
    (∃ t, step (withTurn (.seq none) started) = .next t ∧ t.seqState ≠ started.seqState) ∧
    (∃ t, step (withLine (lineWR .cmd 6#32) base) = .next t ∧ t.seqState ≠ base.seqState) ∧
    (∃ t, step (withTurn .tick started) = .next t) ∧
    (∃ t, step (withTurn .reset started) = .next t ∧ t.seqState ≠ started.seqState) :=
  ⟨⟨_, rfl, by decide⟩, ⟨_, rfl, by decide⟩, ⟨_, rfl⟩, ⟨_, rfl, by decide⟩⟩

/-- `OnlyHostChangesCommandSide` and `PayloadOnlyWrittenFromOutside`: a turn of SEQ. -/
theorem meets_SeqTurnStatements : ∃ s t : State, s.schedule = [.seq none] ∧ step s = .next t ∧
    (∀ a b turns, s.schedule ≠ .payloadWrite a b :: turns) :=
  ⟨withTurn (.seq none) started, _, rfl, rfl, by intro a b turns h; cases h⟩

/-- `PayloadWriteSetsOneByte`: a write at the highest address, into a payload in canonical form. -/
theorem meets_PayloadWriteSetsOneByte : ∃ s : State, Memory.wf s.payload ∧
    s.schedule = [.payloadWrite 0xFFFFFFFF#32 5#8] :=
  ⟨withTurn (.payloadWrite 0xFFFFFFFF#32 5#8) base, ⟨List.Pairwise.nil, by decide⟩, rfl⟩

/-- `ResetZeroesEveryRegister`: a reset in the middle of a session. -/
theorem meets_ResetZeroesEveryRegister : ∃ s : State, s.schedule = [.reset] ∧ s.seqState.busy = true :=
  ⟨withTurn .reset started, rfl, rfl⟩

end Sys2Proof.Tests
end

section
/-! PROOFS. The implementation parameters stand outside everything an agent changes (00_scope.md R7; 10_state.md
R33): each turn leaves them, so each step does. -/

namespace Sys2Proof.Machine

/-! SEQ's own steps (42_sequencer.md R89 to R99) and the tick (R93). -/

@[simp] theorem seqCheck_params (s : State) : (seqCheck s).params = s.params := by
  unfold seqCheck
  split <;> rfl

@[simp] theorem seqBulk_params (s : State) : (seqBulk s).params = s.params := rfl

@[simp] theorem seqProbeWrite_params (s : State) : (seqProbeWrite s).params = s.params := rfl

@[simp] theorem seqProbeRead_params (r : LinkAnswer) (s : State) : (seqProbeRead r s).params = s.params := by
  unfold seqProbeRead
  split <;> rfl

@[simp] theorem seqWaitExpiry_params (s : State) : (seqWaitExpiry s).params = s.params := by
  unfold seqWaitExpiry
  split_ifs <;> rfl

@[simp] theorem seqAnnounce_params (s : State) : (seqAnnounce s).params = s.params := rfl

@[simp] theorem seqStreamed_params (w : Word) (s : State) : (seqStreamed w s).params = s.params := rfl

@[simp] theorem seqVerify_params (s : State) : (seqVerify s).params = s.params := by
  unfold seqVerify
  split <;> rfl

/-- A step without a transaction, in each state of SEQ. -/
theorem seqLocalStep_params (s : State) : (seqLocalStep s).params = s.params := by
  unfold seqLocalStep
  split <;> simp [apply_ite State.params]

/-- The effect of an answered transaction, in each state of SEQ. -/
theorem seqLinkStep_params (r : LinkAnswer) (s : State) : (seqLinkStep r s).params = s.params := by
  unfold seqLinkStep
  split <;> simp [apply_ite State.params]

theorem seqTransact_params (q : LinkRequest) (r : LinkAnswer) (s : State) :
    (seqTransact q r s).params = s.params := by
  obtain ⟨code, _, _, _, _, h⟩ | ⟨_, h⟩ := seqTransact_cases q r s
  · rw [h, transportAbort_params, emit_params]
  · rw [h, seqLinkStep_params, emit_params]

@[simp] theorem seqTurn_params (answer : Option LinkAnswer) (s : State) :
    (seqTurn answer s).params = s.params := by
  obtain ⟨_, h⟩ | ⟨_, _, _, h⟩ | ⟨q, r, _, _, h⟩ := seqTurn_cases answer s
  · rw [h, seqLocalStep_params]
  · rw [h]
  · rw [h, seqTransact_params]

@[simp] theorem tickTurn_params (s : State) : (tickTurn s).params = s.params := by
  obtain ⟨_, _, h⟩ | h := tickTurn_cases s <;> rw [h]

/-! The host's accesses (20_memory.md R35 to R37; 30_encoding.md R63). -/

/-- A write to CMD, whether its command executes or fails. -/
theorem writeCommand_params {w : Word} {s t : State} (h : writeCommand w s = .next t) :
    t.params = s.params := by
  obtain ⟨i, _, hw⟩ | ⟨e, _, hw⟩ := writeCommand_cases w s
  · obtain ⟨_, _, _, hparams, _⟩ := exec_frame (hw ▸ h)
    exact hparams
  · cases hw ▸ h
    rfl

/-- A host write at any offset: only CMD runs a command, OPA and OPB take the value. -/
theorem writeOffset_params {o : Nat} {v : Word} {s t : State} (h : writeOffset o v s = .next t) :
    t.params = s.params := by
  rw [writeOffset_eq] at h
  split_ifs at h
  case pos => exact writeCommand_params h
  all_goals cases h; rfl

@[simp] theorem readAccess_params (o : Nat) (s : State) : (readAccess o s).params = s.params := rfl

/-- A turn of the host that is not refused. -/
theorem hostTurn_params {s t : State} (h : hostTurn s = .next t) : t.params = s.params := by
  obtain ⟨_, hs⟩ | ⟨_, _, _, _, _, hs⟩ | ⟨_, _, _, _, _, hs | hs⟩ | ⟨_, _, _, _, _, _, hs⟩ :=
    hostTurn_cases s <;> rw [hs] at h
  · cases h; rfl
  · cases h
  · cases h; exact readAccess_params ..
  · cases h; exact readAccess_params ..
  · exact (writeOffset_params h :)

/-! The interleaving (10_state.md R9; 20_memory.md R52). -/

/-- A reset takes the registers from `State.reset`, but not the parameters (70_reset_and_hazards.md R120). -/
@[simp] theorem resetTurn_params (s : State) : (resetTurn s).params = s.params := rfl

/-- One turn of any agent. -/
theorem runTurn_params {turn : Turn} {s t : State} (h : runTurn turn s = .next t) : t.params = s.params := by
  cases turn with
  | host => exact hostTurn_params h
  | seq answer => cases h; exact seqTurn_params answer s
  | tick => cases h; exact tickTurn_params s
  | linkMode m => cases h; exact driveLinkMode_params m s
  | payloadWrite a b => cases h; exact writePayload_params a b s
  | reset => cases h; exact resetTurn_params s

/-- One step: a stutter keeps the state, and a turn keeps the parameters. -/
theorem step_params {s t : State} (h : step s = .next t) : t.params = s.params := by
  obtain ⟨_, hs⟩ | ⟨_, _, _, hs⟩ := step_cases s <;> rw [hs] at h
  · cases h; rfl
  · exact (runTurn_params h :)

end Sys2Proof.Machine

namespace Sys2Proof

/-- Settles O57, by the case of each turn (`runTurn_params`). -/
theorem parametersNeverChange : Obligations.ParametersNeverChange :=
  fun _ _ h => Machine.step_params h

end Sys2Proof
end

section
/-! PROOFS. A turn of SEQ, of the timer, of the link agent or of another writer of the payload neither reads nor
writes the registers that host commands serve (10_state.md R9; 42_sequencer.md R88): it commutes with putting
any other values in them. That it leaves them as they are is the case in which they are put back unchanged. -/

namespace Sys2Proof.Machine

open Sys2Proof.Safety

/-- A state's own command side, put back, is that state. -/
@[simp] theorem withCommandSide_self (s : State) : withCommandSide s s = s := rfl

/-! What SEQ reads is not of the command side: its own registers, the parameters, the link mode, the payload. -/

@[simp] theorem withCommandSide_seqState (c s : State) : (withCommandSide c s).seqState = s.seqState := rfl

@[simp] theorem withCommandSide_params (c s : State) : (withCommandSide c s).params = s.params := rfl

@[simp] theorem withCommandSide_linkMode (c s : State) : (withCommandSide c s).linkMode = s.linkMode := rfl

@[simp] theorem wordsLeft_withCommandSide (c s : State) : wordsLeft (withCommandSide c s) = wordsLeft s := rfl

@[simp] theorem payloadWord_withCommandSide (c s : State) :
    payloadWord (withCommandSide c s) = payloadWord s := rfl

@[simp] theorem linkRequest_withCommandSide (c s : State) :
    linkRequest (withCommandSide c s) = linkRequest s := rfl

@[simp] theorem emit_withCommandSide (c : State) (e : Event) (s : State) :
    emit e (withCommandSide c s) = withCommandSide c (emit e s) := rfl

/-! SEQ's own steps (42_sequencer.md R89 to R99) and the tick (R93). -/

theorem seqCheck_withCommandSide (c s : State) :
    seqCheck (withCommandSide c s) = withCommandSide c (seqCheck s) := by
  simp only [seqCheck, withCommandSide_linkMode]
  cases s.linkMode <;> rfl

theorem seqProbeRead_withCommandSide (c : State) (r : LinkAnswer) (s : State) :
    seqProbeRead r (withCommandSide c s) = withCommandSide c (seqProbeRead r s) := by
  unfold seqProbeRead
  split <;> rfl

theorem seqWaitExpiry_withCommandSide (c s : State) :
    seqWaitExpiry (withCommandSide c s) = withCommandSide c (seqWaitExpiry s) := by
  simp only [seqWaitExpiry, apply_ite (withCommandSide c)]
  rfl

theorem seqVerify_withCommandSide (c s : State) :
    seqVerify (withCommandSide c s) = withCommandSide c (seqVerify s) := by
  simp only [seqVerify, apply_ite (withCommandSide c)]
  rfl

/-- A step without a transaction, in each state of SEQ. -/
theorem seqLocalStep_withCommandSide (c s : State) :
    seqLocalStep (withCommandSide c s) = withCommandSide c (seqLocalStep s) := by
  simp only [seqLocalStep, withCommandSide_seqState, wordsLeft_withCommandSide]
  split
  case h_2 hcheck => exact seqCheck_withCommandSide c s
  case h_6 hwait => exact seqWaitExpiry_withCommandSide c s
  case h_8 hstreaming => rw [seqVerify_withCommandSide, apply_ite (withCommandSide c)]; rfl
  all_goals rfl

/-- The effect of an answered transaction, in each state of SEQ. -/
theorem seqLinkStep_withCommandSide (c : State) (r : LinkAnswer) (s : State) :
    seqLinkStep r (withCommandSide c s) = withCommandSide c (seqLinkStep r s) := by
  simp only [seqLinkStep, withCommandSide_seqState, wordsLeft_withCommandSide, payloadWord_withCommandSide]
  split
  case h_5 hprobeR => exact seqProbeRead_withCommandSide c r s
  case h_8 hstreaming => rw [apply_ite (withCommandSide c)]; rfl
  all_goals rfl

theorem seqTransact_withCommandSide (c : State) (q : LinkRequest) (r : LinkAnswer) (s : State) :
    seqTransact q r (withCommandSide c s) = withCommandSide c (seqTransact q r s) := by
  simp only [seqTransact, withCommandSide_params, emit_withCommandSide]
  cases requestAbort s.params.xportErrPolicy q r with
  | some code => rfl
  | none => exact seqLinkStep_withCommandSide c r (emit (q.event r) s)

theorem seqTurn_withCommandSide (c : State) (answer : Option LinkAnswer) (s : State) :
    seqTurn answer (withCommandSide c s) = withCommandSide c (seqTurn answer s) := by
  simp only [seqTurn, linkRequest_withCommandSide]
  cases linkRequest s with
  | none => exact seqLocalStep_withCommandSide c s
  | some q =>
    cases answer with
    | none => rfl
    | some r => exact seqTransact_withCommandSide c q r s

theorem tickTurn_withCommandSide (c s : State) :
    tickTurn (withCommandSide c s) = withCommandSide c (tickTurn s) := by
  simp only [tickTurn, apply_ite (withCommandSide c)]
  rfl

/-! The interleaving (10_state.md R9; 20_memory.md R52). -/

/-- One turn of any agent but the host, a reset apart. -/
theorem runTurn_withCommandSide (c : State) {turn : Turn} {s t : State} (hhost : turn ≠ .host)
    (hreset : turn ≠ .reset) (h : runTurn turn s = .next t) :
    runTurn turn (withCommandSide c s) = .next (withCommandSide c t) := by
  cases turn with
  | host => exact absurd rfl hhost
  | seq answer => cases h; exact congrArg Host.Outcome.next (seqTurn_withCommandSide c answer s)
  | tick => cases h; exact congrArg Host.Outcome.next (tickTurn_withCommandSide c s)
  | linkMode m => cases h; rfl
  | payloadWrite a b => cases h; rfl
  | reset => exact absurd rfl hreset

/-- One step whose turn is neither the host's nor a reset. -/
theorem step_withCommandSide (c : State) {s t : State} {turn : Turn} {turns : List Turn}
    (hs : s.schedule = turn :: turns) (hhost : turn ≠ .host) (hreset : turn ≠ .reset)
    (h : step s = .next t) : step (withCommandSide c s) = .next (withCommandSide c t) := by
  rw [step_cons hs] at h
  have hc : (withCommandSide c s).schedule = turn :: turns := hs
  rw [step_cons hc]
  exact runTurn_withCommandSide c hhost hreset h

/-- Such a step leaves the command side: putting it back in the state before changes neither that state nor, the
step commuting with it, the state after. -/
theorem step_keeps_commandSide {s t : State} {turn : Turn} {turns : List Turn}
    (hs : s.schedule = turn :: turns) (hhost : turn ≠ .host) (hreset : turn ≠ .reset)
    (h : step s = .next t) : withCommandSide s t = t := by
  have hback := step_withCommandSide s hs hhost hreset h
  rw [withCommandSide_self, h] at hback
  exact (Host.Outcome.next.inj hback).symm

end Sys2Proof.Machine

namespace Sys2Proof

/-- Settles O52: each turn of SEQ and each tick commutes with putting other values in the command side. -/
theorem sessionIgnoresCommandSide : Obligations.SessionIgnoresCommandSide := by
  rintro s c s' t turns hs (rfl | ⟨ans, rfl⟩) h
  · exact Machine.step_withCommandSide c hs nofun nofun h
  · exact Machine.step_withCommandSide c hs nofun nofun h

/-- Settles O51, by the same commutation (`Machine.step_keeps_commandSide`). -/
theorem onlyHostChangesCommandSide : Obligations.OnlyHostChangesCommandSide :=
  fun _ _ _ _ hs hhost hreset h => Machine.step_keeps_commandSide hs hhost hreset h

end Sys2Proof
end

section
/-! PROOFS. What a turn of the host can do, and from it what changes OPA, OPB and RESULT (10_state.md R10, R11;
20_memory.md R37). -/

namespace Sys2Proof.Machine

open Sys2Proof.Safety

/-- A turn of the host that is not refused: it takes its line or its read and nothing else (20_memory.md R36,
R38), or it writes OPA, OPB or CMD (R37). -/
theorem hostTurn_next_cases {s t : State} (h : hostTurn s = .next t) :
    t = { s with hostProgram := t.hostProgram, hostReads := t.hostReads } ∨
    (∃ v lines, s.hostProgram = .bus (.write .word 0x04 v) :: lines ∧
      t = { s with hostProgram := lines, opa := v }) ∨
    (∃ v lines, s.hostProgram = .bus (.write .word 0x08 v) :: lines ∧
      t = { s with hostProgram := lines, opb := v }) ∨
    (∃ w lines, s.hostProgram = .bus (.write .word 0x00 w) :: lines ∧
      writeCommand w { s with hostProgram := lines } = .next t) := by
  obtain ⟨_, hs⟩ | ⟨_, _, _, _, _, hs⟩ | ⟨_, _, _, _, _, hs | hs⟩ | ⟨o, v, lines, hp, _, _, hs⟩ :=
    hostTurn_cases s <;> rw [hs] at h
  · cases h; exact .inl rfl
  · cases h
  · cases h; exact .inl rfl
  · cases h; exact .inl rfl
  · rw [writeOffset_eq] at h
    split_ifs at h with hcmd hopa hopb
    · subst hcmd; exact .inr (.inr (.inr ⟨v, lines, hp, h⟩))
    · subst hopa; cases h; exact .inr (.inl ⟨v, lines, hp, rfl⟩)
    · subst hopb; cases h; exact .inr (.inr (.inl ⟨v, lines, hp, rfl⟩))
    · cases h; exact .inl rfl

/-! The command register (30_encoding.md R59, R63). -/

/-- A write to CMD never changes an operand, whether its command executes or fails. -/
theorem writeCommand_operands {w : Word} {s t : State} (h : writeCommand w s = .next t) :
    t.opa = s.opa ∧ t.opb = s.opb := by
  obtain ⟨i, _, hw⟩ | ⟨e, _, hw⟩ := writeCommand_cases w s <;> rw [hw] at h
  · obtain ⟨hopa, hopb, _⟩ := exec_frame h
    exact ⟨hopa, hopb⟩
  · cases h; exact ⟨rfl, rfl⟩

/-- A command leaves RESULT, or it is one of the three that compute it and succeeds (10_state.md R11). -/
theorem exec_result {i : Instr} {s t : State} (h : exec i s = .next t) :
    t.result = s.result ∨ (t.cmdErr = .ok ∧ (i = .crcAcc ∨ i = .crcFin ∨ i = .ciphXform)) := by
  cases i with
  | crcInit | ciphInit => cases h; exact .inl rfl
  | crcAcc | crcFin | ciphXform =>
    simp only [exec, execCrcAcc, execCrcFin, execCiphXform] at h
    split at h <;> cases h
    · exact .inr ⟨rfl, by simp⟩
    · exact .inl rfl
  | seqStart =>
    simp only [exec, execSeqStart] at h
    split at h <;> cases h <;> exact .inl rfl

/-- A write to CMD leaves RESULT, or its word is one of those three commands' and is reported OK. -/
theorem writeCommand_result {w : Word} {s t : State} (h : writeCommand w s = .next t) :
    t.result = s.result ∨
      (t.cmdErr = .ok ∧ (w = 0x00000002#32 ∨ w = 0x00000003#32 ∨ w = 0x00000005#32)) := by
  obtain ⟨i, rfl, hw⟩ | ⟨e, _, hw⟩ := writeCommand_cases w s <;> rw [hw] at h
  · refine (exec_result h).imp id (And.imp_right ?_)
    rintro (rfl | rfl | rfl) <;> decide
  · cases h; exact .inl rfl

/-! The host's turn. -/

/-- An operand changes at the host's turn only by the host's write of it. -/
theorem hostTurn_operands {s t : State} (h : hostTurn s = .next t) :
    (t.opa = s.opa ∨ ∃ lines, s.hostProgram = .bus (.write .word 0x04 t.opa) :: lines) ∧
    (t.opb = s.opb ∨ ∃ lines, s.hostProgram = .bus (.write .word 0x08 t.opb) :: lines) := by
  obtain hread | ⟨v, lines, hp, rfl⟩ | ⟨v, lines, hp, rfl⟩ | ⟨_, _, _, hw⟩ := hostTurn_next_cases h
  · rw [hread]; exact ⟨.inl rfl, .inl rfl⟩
  · exact ⟨.inr ⟨lines, hp⟩, .inl rfl⟩
  · exact ⟨.inl rfl, .inr ⟨lines, hp⟩⟩
  · exact (writeCommand_operands hw).imp .inl .inl

/-- RESULT changes at the host's turn only by a command that computes it. -/
theorem hostTurn_result {s t : State} (h : hostTurn s = .next t) :
    t.result = s.result ∨ (t.cmdErr = .ok ∧
      ∃ w lines, s.hostProgram = .bus (.write .word 0x00 w) :: lines ∧
        (w = 0x00000002#32 ∨ w = 0x00000003#32 ∨ w = 0x00000005#32)) := by
  obtain hread | ⟨_, _, _, rfl⟩ | ⟨_, _, _, rfl⟩ | ⟨w, lines, hp, hw⟩ := hostTurn_next_cases h
  · rw [hread]; exact .inl rfl
  · exact .inl rfl
  · exact .inl rfl
  · obtain hresult | ⟨herr, hword⟩ := writeCommand_result hw
    · exact .inl hresult
    · exact .inr ⟨herr, w, lines, hp, hword⟩

/-- A step by whose turn it is: a reset, the host's, or one that leaves the command side. -/
theorem step_commandSide_cases {s t : State} {turn : Turn} {turns : List Turn}
    (hs : s.schedule = turn :: turns) (h : step s = .next t) :
    turn = .reset ∨ (turn = .host ∧ hostTurn { s with schedule := turns } = .next t) ∨
      withCommandSide s t = t := by
  by_cases hreset : turn = .reset
  · exact .inl hreset
  by_cases hhost : turn = .host
  · subst hhost
    rw [step_cons hs] at h
    exact .inr (.inl ⟨rfl, h⟩)
  · exact .inr (.inr (step_keeps_commandSide hs hhost hreset h))

end Sys2Proof.Machine

namespace Sys2Proof

open Machine

/-- Settles O14: at the host's turn by the line it performs, at any other turn but a reset because it leaves the
command side. -/
theorem operandsChangeOnlyByHostWrites : Obligations.OperandsChangeOnlyByHostWrites := by
  intro s s' t turns hs h
  obtain hreset | ⟨hhost, hturn⟩ | hside := step_commandSide_cases hs h
  · exact ⟨.inr (.inl hreset), .inr (.inl hreset)⟩
  · obtain ⟨hopa, hopb⟩ := hostTurn_operands hturn
    exact ⟨hopa.imp id fun hline => .inr ⟨hhost, hline⟩, hopb.imp id fun hline => .inr ⟨hhost, hline⟩⟩
  · rw [← hside]
    exact ⟨.inl rfl, .inl rfl⟩

/-- Settles O15: at the host's turn by the command its line runs, at any other turn but a reset because it leaves
the command side. -/
theorem resultWrittenOnlyByItsCommands : Obligations.ResultWrittenOnlyByItsCommands := by
  intro s s' t turns hs h
  obtain hreset | ⟨hhost, hturn⟩ | hside := step_commandSide_cases hs h
  · exact .inr (.inl hreset)
  · exact (hostTurn_result hturn).imp id fun hcommand => .inr ⟨hhost, hcommand⟩
  · rw [← hside]
    exact .inl rfl

end Sys2Proof
end

section
/-! PROOFS. The event trace only grows at its end (10_state.md R32): the trace before a turn begins the trace
after it (`<+:`), and this relation composes. -/

namespace Sys2Proof.Machine

/-! SEQ's own steps (42_sequencer.md R89 to R99). Only `emit` touches the trace. -/

@[simp] theorem seqCheck_trace (s : State) : (seqCheck s).trace = s.trace := by
  unfold seqCheck
  split <;> rfl

@[simp] theorem seqProbeRead_trace (r : LinkAnswer) (s : State) : (seqProbeRead r s).trace = s.trace := by
  unfold seqProbeRead
  split <;> rfl

@[simp] theorem seqWaitExpiry_trace (s : State) : (seqWaitExpiry s).trace = s.trace := by
  unfold seqWaitExpiry
  split_ifs <;> rfl

/-- An event goes to the end of the trace. -/
theorem trace_prefix_emit (e : Event) (s : State) : s.trace <+: (emit e s).trace :=
  List.prefix_append ..

theorem trace_prefix_seqVerify (s : State) : s.trace <+: (seqVerify s).trace := by
  unfold seqVerify
  split
  · exact List.prefix_append ..
  · exact List.prefix_rfl

/-- A step without a transaction emits at most VERIFY_OK, at the end of the stream. -/
theorem trace_prefix_seqLocalStep (s : State) : s.trace <+: (seqLocalStep s).trace := by
  unfold seqLocalStep
  split
  case h_2 hcheck => rw [seqCheck_trace]
  case h_6 hwait => rw [seqWaitExpiry_trace]
  case h_8 hstreaming =>
    split
    · exact List.prefix_rfl
    · exact trace_prefix_seqVerify s
  all_goals exact List.prefix_rfl

/-- The effect of an answered transaction emits at most PROGRESS, after a payload word. -/
theorem trace_prefix_seqLinkStep (r : LinkAnswer) (s : State) : s.trace <+: (seqLinkStep r s).trace := by
  unfold seqLinkStep
  split
  case h_5 hprobeR => rw [seqProbeRead_trace]
  case h_8 hstreaming =>
    split
    · exact List.prefix_append ..
    · exact List.prefix_rfl
  all_goals exact List.prefix_rfl

/-- An answered transaction emits its LINK event before anything else (42_sequencer.md R99). -/
theorem trace_prefix_seqTransact (q : LinkRequest) (r : LinkAnswer) (s : State) :
    s.trace <+: (seqTransact q r s).trace := by
  obtain ⟨code, _, _, _, _, h⟩ | ⟨_, h⟩ := seqTransact_cases q r s <;> rw [h]
  · exact trace_prefix_emit ..
  · exact (trace_prefix_emit ..).trans (trace_prefix_seqLinkStep ..)

theorem trace_prefix_seqTurn (answer : Option LinkAnswer) (s : State) :
    s.trace <+: (seqTurn answer s).trace := by
  obtain ⟨_, h⟩ | ⟨_, _, _, h⟩ | ⟨q, r, _, _, h⟩ := seqTurn_cases answer s <;> rw [h]
  · exact trace_prefix_seqLocalStep s
  · exact trace_prefix_seqTransact q r s

@[simp] theorem tickTurn_trace (s : State) : (tickTurn s).trace = s.trace := by
  obtain ⟨_, _, h⟩ | h := tickTurn_cases s <;> rw [h]

/-! The host emits nothing. -/

theorem writeCommand_trace {w : Word} {s t : State} (h : writeCommand w s = .next t) :
    t.trace = s.trace := by
  obtain ⟨i, _, hw⟩ | ⟨e, _, hw⟩ := writeCommand_cases w s <;> rw [hw] at h
  · obtain ⟨_, _, htrace, _⟩ := exec_frame h
    exact htrace
  · cases h; rfl

theorem hostTurn_trace {s t : State} (h : hostTurn s = .next t) : t.trace = s.trace := by
  obtain hread | ⟨_, _, _, rfl⟩ | ⟨_, _, _, rfl⟩ | ⟨_, _, _, hw⟩ := hostTurn_next_cases h
  · rw [hread]
  · rfl
  · rfl
  · exact (writeCommand_trace hw :)

/-! The interleaving (10_state.md R9; 20_memory.md R52). -/

/-- A reset does not erase the trace (70_reset_and_hazards.md R120). -/
@[simp] theorem resetTurn_trace (s : State) : (resetTurn s).trace = s.trace := rfl

/-- One turn of any agent. -/
theorem trace_prefix_runTurn {turn : Turn} {s t : State} (h : runTurn turn s = .next t) :
    s.trace <+: t.trace := by
  cases turn with
  | host => rw [hostTurn_trace h]
  | seq answer => cases h; exact trace_prefix_seqTurn answer s
  | tick => cases h; rw [tickTurn_trace]
  | linkMode m => cases h; rw [driveLinkMode_trace]
  | payloadWrite a b => cases h; rw [writePayload_trace]
  | reset => cases h; rw [resetTurn_trace]

/-- One step: a stutter keeps the state, and a turn lets the trace grow. -/
theorem trace_prefix_step {s t : State} (h : step s = .next t) : s.trace <+: t.trace := by
  obtain ⟨_, hs⟩ | ⟨_, _, _, hs⟩ := step_cases s <;> rw [hs] at h
  · cases h; exact List.prefix_rfl
  · exact (trace_prefix_runTurn h :)

end Sys2Proof.Machine

namespace Sys2Proof

/-- Settles O54: the trace before a step begins the trace after it. -/
theorem traceIsAppendOnly : Obligations.TraceIsAppendOnly := by
  intro s s' h
  obtain ⟨es, hes⟩ := Machine.trace_prefix_step h
  exact ⟨es, hes.symm⟩

end Sys2Proof
end

section
/-! PROOFS. The layout of the status registers (10_state.md R14, R19, R22, R23): each register's word is its fields
put side by side, and reading a field drops the fields below it, then keeps the lowest of what is left. -/

namespace Sys2Proof.Machine

open BitVec

/-- The lowest field of a word. -/
theorem extractLsb'_append_low {v w : Nat} (hi : BitVec v) (lo : BitVec w) :
    extractLsb' 0 w (hi ++ lo) = lo := by
  rw [extractLsb'_append_eq_of_add_le (by omega), extractLsb'_eq_self]

theorem getLsbD_flagBit (b : Bool) : (flagBit b).getLsbD 0 = b := by
  cases b <;> rfl

theorem getLsbD_modeBit (m : Mode) : m.bit.getLsbD 0 = true ↔ m = .peerToPeer := by
  cases m <;> decide

/-- BUSY in terms of STATE's number (R23). -/
theorem SeqState.busy_iff_num (st : SeqState) : st.busy = true ↔ 1 ≤ st.num.toNat ∧ st.num.toNat ≤ 4 := by
  cases st <;> simp [SeqState.busy, SeqState.num]

/-! CMDSTAT (R14). -/

theorem cmdstatWord_err (s : State) : (cmdstatWord s).extractLsb' 0 4 = cmdErrNum s.cmdErr :=
  extractLsb'_append_low ..

theorem cmdstatWord_op (s : State) : (cmdstatWord s).extractLsb' 4 4 = s.cmdOp := by
  rw [cmdstatWord, extractLsb'_append_eq_of_le (by decide)]
  exact extractLsb'_append_low ..

theorem cmdstatWord_reserved (s : State) : (cmdstatWord s).extractLsb' 8 24 = 0#24 := by
  rw [cmdstatWord, extractLsb'_append_eq_of_le (by decide), extractLsb'_append_eq_of_le (by decide)]
  exact extractLsb'_eq_self

/-! CKS_CTL and KSC_CTL (R19, R22). -/

theorem ctlWord_v (v : Bool) (m : Mode) : (ctlWord v m).getLsbD 0 = v := by
  rw [ctlWord, getLsbD_append]
  exact getLsbD_flagBit v

theorem ctlWord_mode (v : Bool) (m : Mode) : (ctlWord v m).getLsbD 1 = true ↔ m = .peerToPeer := by
  rw [ctlWord, getLsbD_append, getLsbD_append]
  exact getLsbD_modeBit m

theorem ctlWord_reserved (v : Bool) (m : Mode) : (ctlWord v m).extractLsb' 2 30 = 0#30 := by
  rw [ctlWord, extractLsb'_append_eq_of_le (by decide), extractLsb'_append_eq_of_le (by decide)]
  exact extractLsb'_eq_self

/-! SEQ_STAT (R23), from bit 0 up. -/

theorem seqStatWord_state (s : State) : (seqStatWord s).extractLsb' 0 3 = s.seqState.num :=
  extractLsb'_append_low ..

theorem seqStatWord_sub (s : State) : (seqStatWord s).extractLsb' 3 2 = s.seqState.sub := by
  rw [seqStatWord, extractLsb'_append_eq_of_le (by decide)]
  exact extractLsb'_append_low ..

theorem seqStatWord_reservedLow (s : State) : (seqStatWord s).extractLsb' 5 3 = 0#3 := by
  rw [seqStatWord]
  iterate 2 rw [extractLsb'_append_eq_of_le (by decide)]
  exact extractLsb'_append_low ..

theorem seqStatWord_code (s : State) : (seqStatWord s).extractLsb' 8 3 = s.seqCode.num := by
  rw [seqStatWord]
  iterate 3 rw [extractLsb'_append_eq_of_le (by decide)]
  exact extractLsb'_append_low ..

theorem seqStatWord_vmatch (s : State) : (seqStatWord s).getLsbD 11 = s.seqVmatch := by
  rw [seqStatWord]
  iterate 5 rw [getLsbD_append]
  exact getLsbD_flagBit s.seqVmatch

theorem seqStatWord_busy (s : State) : (seqStatWord s).getLsbD 12 = s.seqState.busy := by
  rw [seqStatWord]
  iterate 6 rw [getLsbD_append]
  exact getLsbD_flagBit s.seqState.busy

theorem seqStatWord_reservedHigh (s : State) : (seqStatWord s).extractLsb' 13 19 = 0#19 := by
  rw [seqStatWord]
  iterate 6 rw [extractLsb'_append_eq_of_le (by decide)]
  exact extractLsb'_eq_self

end Sys2Proof.Machine

namespace Sys2Proof

open Machine

/-- Settles O13: each field by the layout of its register's word, and its number by the case of what it holds. -/
theorem statusRegisterFields : Obligations.StatusRegisterFields := by
  intro s
  simp only [readReg]
  refine ⟨?err, cmdstatWord_op s, cmdstatWord_reserved s, ctlWord_v .., ctlWord_mode .., ctlWord_reserved ..,
    ctlWord_v .., ctlWord_mode .., ctlWord_reserved .., ?state, ?sub, seqStatWord_reservedLow s, ?code,
    seqStatWord_vmatch s, ?busy, seqStatWord_reservedHigh s⟩
  case err =>
    rw [cmdstatWord_err]
    cases s.cmdErr <;> rfl
  case state =>
    rw [seqStatWord_state]
    cases s.seqState <;> rfl
  case sub =>
    rw [seqStatWord_sub]
    obtain _ | sub | sub := s.seqState
    case sendingImage => cases sub <;> rfl
    case awaitingAck => cases sub <;> rfl
    all_goals rfl
  case code =>
    rw [seqStatWord_code]
    cases s.seqCode <;> rfl
  case busy =>
    rw [seqStatWord_busy, seqStatWord_state]
    exact s.seqState.busy_iff_num

end Sys2Proof
end

section
/-! PROOFS. The payload address space (20_memory.md R41, R43, R44): what SEQ's own steps may change at all, from it
that only another writer's turn touches the payload, and what that writer's byte does. -/

namespace Sys2Proof.Machine

/-- `s` with all that SEQ's own steps may change taken from `c`: SEQ_STAT, SEQ_ATT, SEQ_WCNT, SEQ_LASTW, SEQ_TERR,
SEQ_WAIT and the event trace (42_sequencer.md R89 to R99). -/
def withSeqSteps (c s : State) : State :=
  { s with
    seqState := c.seqState, seqCode := c.seqCode, seqVmatch := c.seqVmatch, seqAtt := c.seqAtt
    seqWcnt := c.seqWcnt, seqLastw := c.seqLastw, seqTerr := c.seqTerr, seqWait := c.seqWait, trace := c.trace }

@[simp] theorem withSeqSteps_payload (c s : State) : (withSeqSteps c s).payload = s.payload := rfl

/-! SEQ's own steps (42_sequencer.md R89 to R99). -/

@[simp] theorem withSeqSteps_emit (c : State) (e : Event) (s : State) :
    withSeqSteps c (emit e s) = withSeqSteps c s := rfl

theorem seqCheck_eq_withSeqSteps (s : State) : seqCheck s = withSeqSteps (seqCheck s) s := by
  unfold seqCheck
  split <;> rfl

theorem seqProbeRead_eq_withSeqSteps (r : LinkAnswer) (s : State) :
    seqProbeRead r s = withSeqSteps (seqProbeRead r s) s := by
  unfold seqProbeRead
  split <;> rfl

theorem seqWaitExpiry_eq_withSeqSteps (s : State) : seqWaitExpiry s = withSeqSteps (seqWaitExpiry s) s := by
  unfold seqWaitExpiry
  split_ifs <;> rfl

theorem seqVerify_eq_withSeqSteps (s : State) : seqVerify s = withSeqSteps (seqVerify s) s := by
  unfold seqVerify
  split <;> rfl

/-- A step without a transaction, in each state of SEQ. -/
theorem seqLocalStep_eq_withSeqSteps (s : State) : seqLocalStep s = withSeqSteps (seqLocalStep s) s := by
  unfold seqLocalStep
  split
  case h_2 hcheck => exact seqCheck_eq_withSeqSteps s
  case h_6 hwait => exact seqWaitExpiry_eq_withSeqSteps s
  case h_8 hstreaming =>
    split
    · rfl
    · exact seqVerify_eq_withSeqSteps s
  all_goals rfl

/-- The effect of an answered transaction, in each state of SEQ. -/
theorem seqLinkStep_eq_withSeqSteps (r : LinkAnswer) (s : State) :
    seqLinkStep r s = withSeqSteps (seqLinkStep r s) s := by
  unfold seqLinkStep
  split
  case h_5 hprobeR => exact seqProbeRead_eq_withSeqSteps r s
  case h_8 hstreaming => split <;> rfl
  all_goals rfl

theorem seqTransact_eq_withSeqSteps (q : LinkRequest) (r : LinkAnswer) (s : State) :
    seqTransact q r s = withSeqSteps (seqTransact q r s) s := by
  obtain ⟨code, _, _, _, _, h⟩ | ⟨_, h⟩ := seqTransact_cases q r s <;> rw [h]
  · rfl
  · exact (seqLinkStep_eq_withSeqSteps r (emit (q.event r) s)).trans (withSeqSteps_emit ..)

/-- The frame of a turn of SEQ. -/
theorem seqTurn_eq_withSeqSteps (answer : Option LinkAnswer) (s : State) :
    seqTurn answer s = withSeqSteps (seqTurn answer s) s := by
  obtain ⟨_, h⟩ | ⟨_, _, _, h⟩ | ⟨q, r, _, _, h⟩ := seqTurn_cases answer s <;> rw [h]
  · exact seqLocalStep_eq_withSeqSteps s
  · rfl
  · exact seqTransact_eq_withSeqSteps q r s

/-! The payload at each turn (20_memory.md R41). -/

@[simp] theorem seqTurn_payload (answer : Option LinkAnswer) (s : State) :
    (seqTurn answer s).payload = s.payload := by
  rw [seqTurn_eq_withSeqSteps, withSeqSteps_payload]

@[simp] theorem tickTurn_payload (s : State) : (tickTurn s).payload = s.payload := by
  obtain ⟨_, _, h⟩ | h := tickTurn_cases s <;> rw [h]

theorem writeCommand_payload {w : Word} {s t : State} (h : writeCommand w s = .next t) :
    t.payload = s.payload := by
  obtain ⟨i, _, hw⟩ | ⟨e, _, hw⟩ := writeCommand_cases w s <;> rw [hw] at h
  · obtain ⟨_, _, _, _, _, hpayload, _⟩ := exec_frame h
    exact hpayload
  · cases h; rfl

theorem hostTurn_payload {s t : State} (h : hostTurn s = .next t) : t.payload = s.payload := by
  obtain hread | ⟨_, _, _, rfl⟩ | ⟨_, _, _, rfl⟩ | ⟨_, _, _, hw⟩ := hostTurn_next_cases h
  · rw [hread]
  · rfl
  · rfl
  · exact (writeCommand_payload hw :)

/-- A reset leaves the payload, which lies outside MBCORE (log 13). -/
@[simp] theorem resetTurn_payload (s : State) : (resetTurn s).payload = s.payload := rfl

/-- One turn of any agent but another writer. -/
theorem runTurn_payload {turn : Turn} {s t : State} (hwriter : ∀ a b, turn ≠ .payloadWrite a b)
    (h : runTurn turn s = .next t) : t.payload = s.payload := by
  cases turn with
  | host => exact hostTurn_payload h
  | seq answer => cases h; exact seqTurn_payload answer s
  | tick => cases h; exact tickTurn_payload s
  | linkMode m => cases h; exact driveLinkMode_payload m s
  | payloadWrite a b => exact absurd rfl (hwriter a b)
  | reset => cases h; exact resetTurn_payload s

/-- One step: a stutter keeps the state, and a turn of any agent but another writer keeps the payload. -/
theorem step_payload {s t : State} (hwriter : ∀ a b turns, s.schedule ≠ .payloadWrite a b :: turns)
    (h : step s = .next t) : t.payload = s.payload := by
  obtain ⟨_, hs⟩ | ⟨turn, turns, hsched, hs⟩ := step_cases s <;> rw [hs] at h
  · cases h; rfl
  · have hturn : ∀ a b, turn ≠ .payloadWrite a b := fun a b hab => hwriter a b turns (hab ▸ hsched)
    exact (runTurn_payload hturn h :)

/-- A read of the payload after another agent's write (20_memory.md R43, R44). -/
theorem memRead8_writePayload {s : State} (hwf : Memory.wf s.payload) (a : Word) (b : Byte) (x : Word) :
    memRead8 (writePayload a b s) x = if x = a then b else memRead8 s x := by
  simp only [memRead8, writePayload_payload, Memory.readByte_writeByte hwf, BitVec.toNat_inj]

end Sys2Proof.Machine

namespace Sys2Proof

open Machine

/-- Settles O55: no turn but another writer's changes the payload, and a read of it depends on nothing else. -/
theorem payloadOnlyWrittenFromOutside : Obligations.PayloadOnlyWrittenFromOutside := by
  intro s s' hwriter h
  have hpayload := step_payload hwriter h
  exact ⟨hpayload, fun a => by simp only [memRead8, hpayload]⟩

/-- Settles O56: the step is the write of the byte (`step_cons`), and `memRead8_writePayload` says what is read
after it. -/
theorem payloadWriteSetsOneByte : Obligations.PayloadWriteSetsOneByte := by
  intro s a b turns hwf hs
  have hread := memRead8_writePayload (s := { s with schedule := turns }) hwf a b
  refine ⟨_, step_cons hs, rfl, ?_, fun x hx => ?_⟩
  · rw [hread, if_pos rfl]
  · rw [hread, if_neg hx]
    rfl

end Sys2Proof
end

section
/-! PROOFS. The host window (20_memory.md R35 to R38): which accesses are refused, what a read returns and what a
write does, at each offset of the window. -/

namespace Sys2Proof.Machine

open Sys2Proof.Safety

/-! Refusals (R35). -/

/-- MBCORE never traps: no outcome is a fault, as there is none (60_exceptions.md R104). -/
theorem outcome_next_or_refused (o : Host.Outcome State Fault Refusal) :
    (∃ t, o = .next t) ∨ (∃ r, o = .refused r) := by
  cases o with
  | next t => exact .inl ⟨t, rfl⟩
  | fault r => cases r
  | refused r => exact .inr ⟨r, rfl⟩

/-- A write to CMD is never refused, whether its command executes or fails. -/
theorem writeCommand_next (w : Word) (s : State) : ∃ t, writeCommand w s = .next t := by
  obtain ⟨i, _, hw⟩ | ⟨e, _, hw⟩ := writeCommand_cases w s <;> rw [hw]
  · exact exec_next i s
  · exact ⟨_, rfl⟩

/-- A write is never refused for its offset or its value: what R35 excludes is refused before. -/
theorem writeOffset_next (o : Nat) (v : Word) (s : State) : ∃ t, writeOffset o v s = .next t := by
  rw [writeOffset_eq]
  split_ifs
  case pos => exact writeCommand_next v s
  all_goals exact ⟨_, rfl⟩

/-- The host's turn is refused exactly where its next line is outside the interface contract. -/
theorem hostTurn_refused_iff (s : State) :
    (∃ r, hostTurn s = .refused r) ↔ ∃ l lines, s.hostProgram = l :: lines ∧ l.wellFormed = false := by
  obtain ⟨hp, hs⟩ | ⟨l, lines, r, hp, hl, hs⟩ | ⟨l, lines, o, hp, hl, hs | hs⟩ | ⟨o, v, lines, hp, ho, hal, hs⟩ :=
    hostTurn_cases s
  · simp [hs, hp]
  · simp [hs, hp, hl]
  · simp [hs, hp, hl]
  · simp [hs, hp, hl]
  · obtain ⟨t, ht⟩ := writeOffset_next o v { s with hostProgram := lines }
    have hl : (HostLine.bus (.write .word o v)).wellFormed = true :=
      (accessRefusal_eq_none_iff .word o).mp (accessRefusal_none ho hal)
    simp [hs, ht, hp, hl]

/-- Only the host's turn can be refused. -/
theorem runTurn_refused {turn : Turn} {s : State} {r : Refusal} (h : runTurn turn s = .refused r) :
    turn = .host ∧ hostTurn s = .refused r := by
  cases turn with
  | host => exact ⟨rfl, h⟩
  | seq | tick | linkMode | payloadWrite | reset => cases h

/-- A step is refused exactly where the host's turn comes and is refused. -/
theorem step_refused_iff (s : State) :
    (∃ r, step s = .refused r) ↔
      ∃ turns, s.schedule = .host :: turns ∧ ∃ r, hostTurn { s with schedule := turns } = .refused r := by
  constructor
  · rintro ⟨r, h⟩
    obtain ⟨_, hs⟩ | ⟨turn, turns, hsched, hs⟩ := step_cases s <;> rw [hs] at h
    · cases h
    · obtain ⟨rfl, hhost⟩ := runTurn_refused h
      exact ⟨turns, hsched, r, hhost⟩
  · rintro ⟨turns, hsched, r, hr⟩
    exact ⟨r, (step_cons hsched).trans hr⟩

/-! The values read (R36, R38). -/

@[simp] theorem readOffset_reserved {o : Nat} (h : 0x54 ≤ o) (s : State) : readOffset o s = 0#32 := by
  simp only [readOffset, regAt_reserved h]

/-- A read sees the registers, and nothing of what the model keeps of the host and of the interleaving. -/
theorem readOffset_withHost (o : Nat) (s : State) (lines : List HostLine) (reads : List HostRead)
    (turns : List Turn) :
    readOffset o { s with hostProgram := lines, hostReads := reads, schedule := turns } = readOffset o s := by
  unfold readOffset
  cases regAt o with
  | none => rfl
  | some r => cases r <;> rfl

/-! Each mask below has ones in the register's reserved fields, which its layout fills with 0 (10_state.md R14, R19,
R22, R23), and so is written field by field in that layout. -/

theorem cmdstatWord_and_reserved (s : State) : cmdstatWord s &&& 0xFFFFFF00#32 = 0#32 := by
  change (0#24 ++ s.cmdOp ++ cmdErrNum s.cmdErr) &&& (BitVec.allOnes 24 ++ 0#4 ++ 0#4) = 0#24 ++ 0#4 ++ 0#4
  simp only [BitVec.and_append, BitVec.zero_and, BitVec.and_zero]

theorem ctlWord_and_reserved (v : Bool) (m : Mode) : ctlWord v m &&& 0xFFFFFFFC#32 = 0#32 := by
  change (0#30 ++ m.bit ++ flagBit v) &&& (BitVec.allOnes 30 ++ 0#1 ++ 0#1) = 0#30 ++ 0#1 ++ 0#1
  simp only [BitVec.and_append, BitVec.zero_and, BitVec.and_zero]

theorem seqStatWord_and_reserved (s : State) : seqStatWord s &&& 0xFFFFE0E0#32 = 0#32 := by
  change (0#19 ++ flagBit s.seqState.busy ++ flagBit s.seqVmatch ++ s.seqCode.num ++ 0#3 ++ s.seqState.sub ++
      s.seqState.num) &&& (BitVec.allOnes 19 ++ 0#1 ++ 0#1 ++ 0#3 ++ BitVec.allOnes 3 ++ 0#2 ++ 0#3) =
    0#19 ++ 0#1 ++ 0#1 ++ 0#3 ++ 0#3 ++ 0#2 ++ 0#3
  simp only [BitVec.and_append, BitVec.zero_and, BitVec.and_zero]

/-! A step that performs the host's next access, inside the contract (R35 to R37). -/

/-- A read of a word. -/
theorem step_hostRead {s : State} {o : Nat} {turns : List Turn} {lines : List HostLine}
    (hs : s.schedule = .host :: turns) (hp : s.hostProgram = .bus (.read .word o) :: lines)
    (ho : o < 0x100) (hal : o % 4 = 0) :
    step s = .next { s with
      schedule := turns, hostProgram := lines
      hostReads := s.hostReads ++ [{ offset := o, value := readOffset o s }] } := by
  have hread := readOffset_withHost o s lines s.hostReads turns
  simp [step_cons hs, runTurn, hostTurn, hp, busAccess, accessRefusal_none ho hal, popLine, readAccess, logRead,
    hread]

/-- A write of a word. -/
theorem step_hostWrite {s : State} {o : Nat} {v : Word} {turns : List Turn} {lines : List HostLine}
    (hs : s.schedule = .host :: turns) (hp : s.hostProgram = .bus (.write .word o v) :: lines)
    (ho : o < 0x100) (hal : o % 4 = 0) :
    step s = writeOffset o v { s with schedule := turns, hostProgram := lines } := by
  simp [step_cons hs, runTurn, hostTurn, hp, busAccess, accessRefusal_none ho hal, popLine]

/-- Two reads in a row of one offset return the same value. -/
theorem runSteps_two_hostReads {s : State} {o : Nat} {turns : List Turn} {lines : List HostLine}
    (hs : s.schedule = .host :: .host :: turns)
    (hp : s.hostProgram = .bus (.read .word o) :: .bus (.read .word o) :: lines)
    (ho : o < 0x100) (hal : o % 4 = 0) :
    runSteps 2 s = .next { s with
      schedule := turns, hostProgram := lines
      hostReads := s.hostReads ++
        [{ offset := o, value := readOffset o s }, { offset := o, value := readOffset o s }] } := by
  rw [runSteps_succ_of_next (step_hostRead hs hp ho hal), runSteps_one, step_hostRead rfl rfl ho hal,
    readOffset_withHost o s (.bus (.read .word o) :: lines) _ (.host :: turns), List.append_assoc]
  rfl

/-- A reserved offset ignores a write (R38). -/
theorem writeOffset_reserved {o : Nat} (h : 0x54 ≤ o) (v : Word) (s : State) : writeOffset o v s = .next s := by
  simp only [writeOffset, regAt_reserved h]

end Sys2Proof.Machine

namespace Sys2Proof

open Machine

/-- Settles O10: there is no fault, and only a turn of the host can be refused, for its next line. -/
theorem onlyOutsideAccessesRefused : Obligations.OnlyOutsideAccessesRefused := by
  intro s
  refine ⟨outcome_next_or_refused (step s), ?_⟩
  simp only [step_refused_iff, hostTurn_refused_iff, exists_and_left]

/-- Settles O8: the step is the write at its offset. -/
theorem hostWriteEffects : Obligations.HostWriteEffects := by
  intro s o v turns lines hs hp ho hal
  rw [step_hostWrite hs hp ho hal, writeOffset_eq]

/-- Settles O9: no register lies at a reserved offset, for a read or for a write. -/
theorem reservedOffsetsInert : Obligations.ReservedOffsetsInert := by
  intro s o v turns lines hs hlow hhigh hal
  have ho : o < 0x100 := by omega
  refine ⟨fun hp => ?read, fun hp => ?write⟩
  case read => rw [step_hostRead hs hp ho hal, readOffset_reserved hlow]
  case write => rw [step_hostWrite hs hp ho hal, writeOffset_reserved hlow]

/-- Settles O7: the value read is the one of the register at the offset (`hreg`), from which each offset's clause
follows, the reserved bits by the register's layout. -/
theorem hostReadReturnsRegister : Obligations.HostReadReturnsRegister := by
  intro s o turns lines hs hp ho hal
  have hreg : ∀ r : Reg, regOffset r = o → readOffset o s = readReg r s := by
    rintro r rfl
    exact readOffset_offset r s
  refine ⟨readOffset o s, step_hostRead hs hp ho hal, hreg,
    fun h => hreg .cmd h.symm, fun h => hreg .opa h.symm, fun h => hreg .opb h.symm, fun h => hreg .result h.symm,
    fun h => ?cmdstat,
    fun h => hreg .cksAcc h.symm, fun h => hreg .cksPoly h.symm, fun h => hreg .cksHh h.symm,
    fun h => hreg .cksHl h.symm, fun h => ?cksCtl,
    fun h => hreg .kscSeed h.symm, fun h => hreg .kscKey h.symm, fun h => ?kscCtl, fun h => ?seqStat,
    fun h => hreg .seqLen h.symm, fun h => hreg .seqBase h.symm, fun h => hreg .seqAtt h.symm,
    fun h => hreg .seqWcnt h.symm, fun h => hreg .seqLastw h.symm, fun h => hreg .seqTerr h.symm,
    fun h => hreg .seqWait h.symm, fun h => readOffset_reserved h s, ?twice⟩
  case cmdstat => rw [hreg .cmdstat h.symm]; exact cmdstatWord_and_reserved s
  case cksCtl => rw [hreg .cksCtl h.symm]; exact ctlWord_and_reserved s.cksV s.cksMode
  case kscCtl => rw [hreg .kscCtl h.symm]; exact ctlWord_and_reserved s.kscV s.kscMode
  case seqStat => rw [hreg .seqStat h.symm]; exact seqStatWord_and_reserved s
  case twice =>
    rintro turns' lines' rfl rfl
    exact ⟨_, runSteps_two_hostReads hs hp ho hal, rfl⟩

end Sys2Proof
end

section
/-! PROOFS. Command words (30_encoding.md R57 to R63): the words the decoder rejects, and the words of
commands. -/

namespace Sys2Proof

open Machine Safety

/-! The decoder on the fields of a word (R60 to R63). -/

/-- An opcode has no command exactly when it is reserved (R62). -/
theorem instrOfOpcode_eq_none_iff (op : BitVec 4) (mode : BitVec 1) :
    instrOfOpcode op mode = none ↔ ¬(1 ≤ op.toNat ∧ op.toNat ≤ 6) := by
  revert op mode
  decide

/-- The commands that take a mode are those of opcodes 1 and 4 (R60). -/
theorem takesMode_of_instrOfOpcode {op : BitVec 4} {mode : BitVec 1} {i : Instr}
    (h : instrOfOpcode op mode = some i) : i.takesMode = false ↔ op ≠ 1#4 ∧ op ≠ 4#4 := by
  unfold instrOfOpcode at h
  split_ifs at h <;> cases h <;> simp_all [Instr.takesMode]

/-- The fields are well formed when the opcode is listed, RSV is 0, and MODE is not 1 on a command without a mode
(R60 to R62). -/
theorem Cmd32.wellFormed_iff (c : Cmd32) : c.wellFormed = true ↔
    (1 ≤ c.op.toNat ∧ c.op.toNat ≤ 6) ∧ c.rsv = 0#27 ∧ ¬(c.mode = 1#1 ∧ c.op ≠ 1#4 ∧ c.op ≠ 4#4) := by
  have hmode : c.mode = 0#1 ∨ c.mode = 1#1 := by
    generalize c.mode = b
    revert b
    decide
  rcases hmode with hm | hm <;> simp [Cmd32.wellFormed, hm, and_assoc, or_iff_not_imp_left]

/-- The decoder rejects a reserved opcode, then a reserved bit that is set, and decodes every other word (R63). -/
theorem decodeFields_cases (c : Cmd32) :
    (¬(1 ≤ c.op.toNat ∧ c.op.toNat ≤ 6) ∧ decodeFields c = .error .illegalOp) ∨
    ((1 ≤ c.op.toNat ∧ c.op.toNat ≤ 6) ∧ (c.rsv ≠ 0#27 ∨ (c.mode = 1#1 ∧ c.op ≠ 1#4 ∧ c.op ≠ 4#4)) ∧
      decodeFields c = .error .rsvdBits) ∨
    (c.wellFormed = true ∧ ∃ i, decodeFields c = .ok i) := by
  cases hi : instrOfOpcode c.op c.mode with
  | none => exact .inl ⟨(instrOfOpcode_eq_none_iff _ _).mp hi, by simp only [decodeFields, hi]⟩
  | some i =>
    have hop : 1 ≤ c.op.toNat ∧ c.op.toNat ≤ 6 := by
      by_contra h
      simp [(instrOfOpcode_eq_none_iff _ c.mode).mpr h] at hi
    right
    by_cases hr : c.rsv = 0#27
    · by_cases hm : c.mode = 1#1 ∧ c.op ≠ 1#4 ∧ c.op ≠ 4#4
      · refine .inl ⟨hop, .inr hm, ?_⟩
        simp only [decodeFields, hi, hr, takesMode_of_instrOfOpcode hi, if_pos hm, ne_eq, not_true_eq_false, if_false]
      · refine .inr ⟨c.wellFormed_iff.mpr ⟨hop, hr, hm⟩, i, ?_⟩
        simp only [decodeFields, hi, hr, takesMode_of_instrOfOpcode hi, if_neg hm, ne_eq, not_true_eq_false, if_false]
    · exact .inl ⟨hop, .inl hr, by simp [decodeFields, hi, hr]⟩

/-! The fields as numbers (R57). -/

@[simp] theorem fieldsOfWord_op_toNat (w : Word) : (fieldsOfWord w).op.toNat = w.toNat % 16 := by
  simp [fieldsOfWord]

theorem fieldsOfWord_mode_eq_one_iff (w : Word) : (fieldsOfWord w).mode = 1#1 ↔ w.toNat / 16 % 2 = 1 := by
  simp [fieldsOfWord, BitVec.toNat_eq, Nat.shiftRight_eq_div_pow]

theorem fieldsOfWord_rsv_eq_zero_iff (w : Word) : (fieldsOfWord w).rsv = 0#27 ↔ w.toNat / 32 = 0 := by
  have := w.isLt
  simp only [fieldsOfWord, BitVec.toNat_eq, BitVec.extractLsb'_toNat, Nat.shiftRight_eq_div_pow, BitVec.toNat_ofNat]
  omega

/-- The fields of a word that decide whether its reserved bits are 0 (R60, R61). -/
theorem fieldsOfWord_rsvd_iff (w : Word) :
    ((fieldsOfWord w).rsv ≠ 0#27 ∨
      ((fieldsOfWord w).mode = 1#1 ∧ (fieldsOfWord w).op ≠ 1#4 ∧ (fieldsOfWord w).op ≠ 4#4)) ↔
    (w.toNat / 32 ≠ 0 ∨ (w.toNat / 16 % 2 = 1 ∧ w.toNat % 16 ≠ 1 ∧ w.toNat % 16 ≠ 4)) := by
  have hop (op : BitVec 4) : (fieldsOfWord w).op = op ↔ w.toNat % 16 = op.toNat := by
    rw [BitVec.toNat_eq, fieldsOfWord_op_toNat]
  simp only [ne_eq, fieldsOfWord_rsv_eq_zero_iff, fieldsOfWord_mode_eq_one_iff, hop, BitVec.toNat_ofNat,
    Nat.reducePow, Nat.reduceMod]

/-! The decoder on words (R61 to R63). -/

/-- The decoder's outcomes for a word, each with the words that have it. -/
theorem decodeCommand_cases (w : Word) :
    (¬(1 ≤ w.toNat % 16 ∧ w.toNat % 16 ≤ 6) ∧ decodeCommand w = .error .illegalOp) ∨
    ((1 ≤ w.toNat % 16 ∧ w.toNat % 16 ≤ 6) ∧
      (w.toNat / 32 ≠ 0 ∨ (w.toNat / 16 % 2 = 1 ∧ w.toNat % 16 ≠ 1 ∧ w.toNat % 16 ≠ 4)) ∧
      decodeCommand w = .error .rsvdBits) ∨
    ((fieldsOfWord w).wellFormed = true ∧ ∃ i, decodeCommand w = .ok i) := by
  have h := decodeFields_cases (fieldsOfWord w)
  rwa [fieldsOfWord_op_toNat, fieldsOfWord_rsvd_iff] at h

/-- A well-formed word has a listed opcode and no reserved bit set. -/
theorem wellFormed_fieldsOfWord_iff (w : Word) : (fieldsOfWord w).wellFormed = true ↔
    (1 ≤ w.toNat % 16 ∧ w.toNat % 16 ≤ 6) ∧
      ¬(w.toNat / 32 ≠ 0 ∨ (w.toNat / 16 % 2 = 1 ∧ w.toNat % 16 ≠ 1 ∧ w.toNat % 16 ≠ 4)) := by
  rw [Cmd32.wellFormed_iff, fieldsOfWord_op_toNat, ← fieldsOfWord_rsvd_iff, not_or, not_not]

/-- The word of a command decodes to it. -/
@[simp] theorem decodeCommand_encodeCommand (i : Instr) : decodeCommand (encodeCommand i) = .ok i := by
  rw [decodeCommand, encodeCommand, fieldsOfWord_wordOfFields, decodeFields_encode]

/-- A word that decodes to a command is that command's word: its three fields are the command's, and no bit lies
outside them. -/
theorem eq_encodeCommand_of_decodeCommand {w : Word} {i : Instr} (h : decodeCommand w = .ok i) :
    w = encodeCommand i := by
  rw [← wordOfFields_fieldsOfWord w, decodeFields_ok h]
  rfl

/-- Settles O1: each direction is a round trip through the three fields. -/
theorem decodeEncodeAgree : Obligations.DecodeEncodeAgree := by
  intro i w
  refine ⟨eq_encodeCommand_of_decodeCommand, ?_⟩
  rintro rfl
  exact decodeCommand_encodeCommand i

/-- Settles O2: the decoder's three outcomes belong to three sets of words that exclude each other. -/
theorem decodeRejectsExactly : Obligations.DecodeRejectsExactly := by
  intro w
  have hreserved : (w.toNat % 16 = 0 ∨ 7 ≤ w.toNat % 16) ↔ ¬(1 ≤ w.toNat % 16 ∧ w.toNat % 16 ≤ 6) := by omega
  rw [hreserved, wellFormed_fieldsOfWord_iff]
  obtain ⟨hop, hd⟩ | ⟨hop, hrsvd, hd⟩ | ⟨hwf, i, hd⟩ := decodeCommand_cases w
  · simp [hd, hop]
  · simp only [hd, hop, hrsvd, reduceCtorEq, Except.error.injEq, exists_false, not_true_eq_false, and_self, and_false]
  · obtain ⟨hop, hrsvd⟩ := (wellFormed_fieldsOfWord_iff w).mp hwf
    simp only [hd, hop, hrsvd, reduceCtorEq, Except.ok.injEq, exists_eq', not_true_eq_false, not_false_eq_true,
      and_self, and_false]

end Sys2Proof
end

section
/-! PROOFS. A write to CMD (30_encoding.md R63): its outcome is the one the rule's decode function names. -/

namespace Sys2Proof

open Machine Safety

/-! The code that the rule gives the word of each command (R63). -/

@[simp] theorem reportedErr_crcInit (m : Mode) (s : State) : reportedErr (encodeCommand (.crcInit m)) s = .ok := by
  cases m <;> rfl

@[simp] theorem reportedErr_crcAcc (s : State) :
    reportedErr (encodeCommand .crcAcc) s = if s.cksV = true then .ok else .notInit := by
  cases h : s.cksV <;> simp [reportedErr, encodeCommand, wordOfFields, Instr.opcode, Instr.modeBit, h]

@[simp] theorem reportedErr_crcFin (s : State) :
    reportedErr (encodeCommand .crcFin) s = if s.cksV = true then .ok else .notInit := by
  cases h : s.cksV <;> simp [reportedErr, encodeCommand, wordOfFields, Instr.opcode, Instr.modeBit, h]

@[simp] theorem reportedErr_ciphInit (m : Mode) (s : State) : reportedErr (encodeCommand (.ciphInit m)) s = .ok := by
  cases m <;> rfl

@[simp] theorem reportedErr_ciphXform (s : State) :
    reportedErr (encodeCommand .ciphXform) s = if s.kscV = true then .ok else .notInit := by
  cases h : s.kscV <;> simp [reportedErr, encodeCommand, wordOfFields, Instr.opcode, Instr.modeBit, h]

@[simp] theorem reportedErr_seqStart (s : State) :
    reportedErr (encodeCommand .seqStart) s = if s.seqState.busy = true then .seqBusy else .ok := by
  cases h : s.seqState.busy <;> simp [reportedErr, encodeCommand, wordOfFields, Instr.opcode, Instr.modeBit, h]

/-- A word the decoder rejects is reported with the decoder's code. -/
theorem reportedErr_of_decodeCommand_error {w : Word} {e : CmdErr} (h : decodeCommand w = .error e) (s : State) :
    reportedErr w s = e := by
  have hshift : w >>> 5 = 0#32 ↔ w.toNat / 32 = 0 := by
    simp only [BitVec.toNat_eq, BitVec.toNat_ushiftRight, Nat.shiftRight_eq_div_pow, BitVec.toNat_ofNat, Nat.reducePow,
      Nat.reduceMod]
  have hmode : w.getLsbD 4 = true ↔ w.toNat / 16 % 2 = 1 := by
    simp [BitVec.getLsbD, Nat.testBit_eq_decide_div_mod_eq]
  obtain ⟨hop, hd⟩ | ⟨hop, hrsvd, hd⟩ | ⟨_, i, hd⟩ := decodeCommand_cases w <;> rw [hd] at h <;> cases h
  · exact if_pos hop
  · simp only [reportedErr, ne_eq, hshift, hmode, if_neg (not_not.mpr hop), ite_eq_left_iff]
    intro hrsv hmodeFree
    exact absurd hrsvd (by omega)

/-- A word the decoder rejects is not reported OK. -/
theorem ne_ok_of_decodeCommand_error {w : Word} {e : CmdErr} (h : decodeCommand w = .error e) : e ≠ .ok := by
  obtain ⟨_, hd⟩ | ⟨_, _, hd⟩ | ⟨_, i, hd⟩ := decodeCommand_cases w <;> rw [hd] at h <;> cases h <;> decide

/-- What a command reports, and that it does nothing more where it fails (60_exceptions.md R109). -/
theorem exec_reports (i : Instr) (s : State) : ∃ t, exec i s = .next t ∧
    t.cmdErr = reportedErr (encodeCommand i) s ∧ t.cmdOp = i.opcode ∧
    (reportedErr (encodeCommand i) s ≠ .ok →
      t = setCmdstat i.opcode (reportedErr (encodeCommand i) s) s) := by
  cases i with
  | crcInit m => exact ⟨_, rfl, by simp, rfl, by simp⟩
  | ciphInit m => exact ⟨_, rfl, by simp, rfl, by simp⟩
  | crcAcc => cases h : s.cksV <;> simp [exec, execCrcAcc, h, Instr.opcode]
  | crcFin => cases h : s.cksV <;> simp [exec, execCrcFin, h, Instr.opcode]
  | ciphXform => cases h : s.kscV <;> simp [exec, execCiphXform, h, Instr.opcode]
  | seqStart => cases h : s.seqState.busy <;> simp [exec, execSeqStart, h, Instr.opcode]

/-- The opcode field of a command's word. -/
theorem encodeCommand_op (i : Instr) : (encodeCommand i).extractLsb' 0 4 = i.opcode :=
  congrArg Cmd32.op (fieldsOfWord_wordOfFields _)

/-- Settles O4: the word is a command's, which reports its own outcome, or the decoder rejects it. -/
theorem commandWriteFollowsDecode : Obligations.CommandWriteFollowsDecode := by
  intro w s
  obtain ⟨i, rfl, hw⟩ | ⟨e, hd, hw⟩ := writeCommand_cases w s
  · obtain ⟨t, ht, herr, hop, hfail⟩ := exec_reports i s
    rw [encodeCommand_op]
    exact ⟨t, hw.trans ht, herr, hop, hfail, fun _ => ⟨i, rfl, ht⟩⟩
  · rw [reportedErr_of_decodeCommand_error hd]
    exact ⟨_, hw, rfl, rfl, fun _ => rfl, fun h => absurd h (ne_ok_of_decodeCommand_error hd)⟩

end Sys2Proof
end

section
/-! PROOFS. The lines of a host program (30_encoding.md R64, R66): a turn of POLL, and the lines of the command
pseudo-instructions. -/

namespace Sys2Proof

open Machine Safety

/-! A register's offset is inside the interface contract (20_memory.md R35). -/

theorem regOffset_lt (r : Reg) : regOffset r < 0x100 := by
  cases r <;> decide

theorem regOffset_aligned (r : Reg) : regOffset r % 4 = 0 := by
  cases r <;> decide

/-! One line, in the host's turn (R64). -/

/-- A turn of POLL is one read; the line is done exactly when the value read meets its condition. -/
theorem step_hostPoll {s : State} {r : Reg} {mask value : Word} {turns : List Turn} {lines : List HostLine}
    (hs : s.schedule = .host :: turns) (hp : s.hostProgram = .poll (regOffset r) mask value :: lines) :
    step s = .next { s with
      schedule := turns
      hostProgram := if readReg r s &&& mask = value then lines else s.hostProgram
      hostReads := s.hostReads ++ [{ offset := regOffset r, value := readReg r s }] } := by
  have hread (lines : List HostLine) :
      readReg r { s with hostProgram := lines, schedule := turns } = readReg r s := by
    cases r <;> rfl
  by_cases h : readReg r s &&& mask = value <;>
    simp [step_cons hs, runTurn, hostTurn, hp, accessRefusal_none (regOffset_lt r) (regOffset_aligned r), popLine,
      readAccess, logRead, hread, h]

/-- Settles O11: a turn of POLL is one read, and its line goes or stays by the value read. -/
theorem pollRepeatsUntilMatch : Obligations.PollRepeatsUntilMatch := by
  intro s r mask value turns lines hs hp
  rw [step_hostPoll hs hp]
  exact ⟨fun h => by rw [if_pos h], fun h => by rw [if_neg h]⟩

/-- A turn of `WR` is the write at its register's offset. -/
theorem step_lineWR {s : State} {r : Reg} {v : Word} {turns : List Turn} {lines : List HostLine}
    (hs : s.schedule = .host :: turns) (hp : s.hostProgram = lineWR r v :: lines) :
    step s = writeOffset (regOffset r) v { s with schedule := turns, hostProgram := lines } :=
  step_hostWrite hs hp (regOffset_lt r) (regOffset_aligned r)

/-- A turn of `WR OPA`. -/
theorem step_lineWR_opa {s : State} {v : Word} {turns : List Turn} {lines : List HostLine}
    (hs : s.schedule = .host :: turns) (hp : s.hostProgram = lineWR .opa v :: lines) :
    step s = .next { s with schedule := turns, hostProgram := lines, opa := v } :=
  step_lineWR hs hp

/-- A turn of `WR OPB`. -/
theorem step_lineWR_opb {s : State} {v : Word} {turns : List Turn} {lines : List HostLine}
    (hs : s.schedule = .host :: turns) (hp : s.hostProgram = lineWR .opb v :: lines) :
    step s = .next { s with schedule := turns, hostProgram := lines, opb := v } :=
  step_lineWR hs hp

/-- A turn of `WR CMD` with a command's word executes the command. -/
theorem step_lineWR_cmd {s : State} {i : Instr} {turns : List Turn} {lines : List HostLine}
    (hs : s.schedule = .host :: turns) (hp : s.hostProgram = lineWR .cmd (encodeCommand i) :: lines) :
    step s = exec i { s with schedule := turns, hostProgram := lines } := by
  rw [step_lineWR hs hp]
  exact writeCommand_encode i _

/-! The two shapes of a command pseudo-instruction: its operands are written, then its word (R66). -/

/-- One operand, then the command. -/
theorem runSteps_opa_cmd {s : State} {a : Word} {i : Instr} {turns : List Turn} {lines : List HostLine}
    (hs : s.schedule = .host :: .host :: turns)
    (hp : s.hostProgram = lineWR .opa a :: lineWR .cmd (encodeCommand i) :: lines) :
    runSteps 2 s = exec i { s with schedule := turns, hostProgram := lines, opa := a } := by
  rw [runSteps_succ_of_next (step_lineWR_opa hs hp), runSteps_one]
  exact step_lineWR_cmd rfl rfl

/-- Two operands, then the command. -/
theorem runSteps_opa_opb_cmd {s : State} {a b : Word} {i : Instr} {turns : List Turn} {lines : List HostLine}
    (hs : s.schedule = .host :: .host :: .host :: turns)
    (hp : s.hostProgram = lineWR .opa a :: lineWR .opb b :: lineWR .cmd (encodeCommand i) :: lines) :
    runSteps 3 s = exec i { s with schedule := turns, hostProgram := lines, opa := a, opb := b } := by
  rw [runSteps_succ_of_next (step_lineWR_opa hs hp)]
  refine (runSteps_succ_of_next (step_lineWR_opb rfl rfl) 1).trans ?_
  rw [runSteps_one]
  exact step_lineWR_cmd rfl rfl

/-! The word written with a mode is the encoding of the command with that mode (R60, R66). -/

theorem encodeCommand_crcInit (m : Mode) :
    0x01#32 ||| (m.bit.setWidth 32 <<< 4) = encodeCommand (.crcInit m) := by
  cases m <;> rfl

theorem encodeCommand_ciphInit (m : Mode) :
    0x04#32 ||| (m.bit.setWidth 32 <<< 4) = encodeCommand (.ciphInit m) := by
  cases m <;> rfl

/-- Settles O12: each pseudo-instruction has one of the two shapes, and the word it writes is its command's. -/
theorem pseudoInstructionsRunCommands : Obligations.PseudoInstructionsRunCommands := by
  intro s turns lines p hs hp
  refine ⟨?crcInit, ?crcAcc, ?crcFin, ?ciphInit, ?ciphXform, ?seqStart⟩
  case crcInit =>
    rintro hh hl m rfl
    rw [expandPseudo, encodeCommand_crcInit] at hp
    exact runSteps_opa_opb_cmd hs hp
  case crcAcc =>
    rintro w rfl
    exact runSteps_opa_cmd hs hp
  case crcFin =>
    rintro w rfl
    exact runSteps_opa_cmd hs hp
  case ciphInit =>
    rintro seed m rfl
    rw [expandPseudo, encodeCommand_ciphInit] at hp
    exact runSteps_opa_cmd hs hp
  case ciphXform =>
    rintro d q rfl
    exact runSteps_opa_opb_cmd hs hp
  case seqStart =>
    rintro len base rfl
    exact runSteps_opa_opb_cmd hs hp

end Sys2Proof
end

section
/-! PROOFS. The fold (40_checksum.md R68, R71): one iteration is linear and, for a polynomial with bit 15 set, can be
undone; 32 of them are the fold. -/

namespace Sys2Proof.Machine

/-! One iteration of the fold's loop (R68). -/

/-- The accumulator after one iteration that takes `bit` from the word. -/
def crcBit (poly a : Half) (bit : Bool) : Half :=
  if a.getLsbD 0 ^^ bit then (a >>> 1) ^^^ poly else a >>> 1

/-- The loop takes the word's bit 0, then goes on with the word shifted. -/
theorem crcFoldLoop_succ (poly : Half) (n : Nat) (a : Half) (w : Word) :
    crcFoldLoop poly (n + 1) a w = crcFoldLoop poly n (crcBit poly a (w.getLsbD 0)) (w >>> 1) := rfl

/-- One iteration as the rule writes it, on the accumulator and the word. -/
def crcRound (poly : Half) (aw : Half × Word) : Half × Word :=
  ((if ((aw.1.setWidth 32 ^^^ aw.2) &&& 1#32) = 1#32 then (aw.1 >>> 1) ^^^ poly else aw.1 >>> 1), aw.2 >>> 1)

theorem and_one_eq_one_iff (x : Word) : x &&& 1#32 = 1#32 ↔ x.getLsbD 0 = true := by
  rw [BitVec.and_one_eq_setWidth_ofBool_getLsbD]
  cases x.getLsbD 0 <;> decide

/-- The rule's feedback is bit 0 of the accumulator XOR bit 0 of the word. -/
theorem crcRound_eq (poly a : Half) (w : Word) :
    crcRound poly (a, w) = (crcBit poly a (w.getLsbD 0), w >>> 1) := by
  have hfb : ((a.setWidth 32 ^^^ w) &&& 1#32 = 1#32) ↔ (a.getLsbD 0 ^^ w.getLsbD 0) = true := by
    simp only [and_one_eq_one_iff, BitVec.getLsbD_xor, BitVec.getLsbD_setWidth, Nat.ofNat_pos, decide_true,
      Bool.true_and]
  simp only [crcRound, crcBit, hfb]

/-- The loop is the iteration of the rule's loop body. -/
theorem crcFoldLoop_eq_iterate (poly : Half) (n : Nat) (a : Half) (w : Word) :
    crcFoldLoop poly n a w = ((crcRound poly)^[n] (a, w)).1 := by
  induction n generalizing a w with
  | zero => rfl
  | succ n ih => rw [crcFoldLoop_succ, ih, Function.iterate_succ_apply, crcRound_eq]

/-! Linearity over GF(2) (R71). -/

/-- The polynomial is XORed in, or 0 is. -/
theorem crcBit_eq_xor (poly a : Half) (bit : Bool) :
    crcBit poly a bit = (a >>> 1) ^^^ bif a.getLsbD 0 ^^ bit then poly else 0#16 := by
  unfold crcBit
  cases a.getLsbD 0 ^^ bit <;> simp

/-- The XOR of two feedbacks XORs in the polynomial as the two would in turn. -/
theorem cond_xor (poly : Half) (f f' : Bool) :
    (bif f ^^ f' then poly else 0#16) = (bif f then poly else 0#16) ^^^ bif f' then poly else 0#16 := by
  cases f <;> cases f' <;> simp

theorem crcBit_xor (poly a a' : Half) (b b' : Bool) :
    crcBit poly (a ^^^ a') (b ^^ b') = crcBit poly a b ^^^ crcBit poly a' b' := by
  have hfb : ((a ^^^ a').getLsbD 0 ^^ (b ^^ b')) = ((a.getLsbD 0 ^^ b) ^^ (a'.getLsbD 0 ^^ b')) := by
    simp only [BitVec.getLsbD_xor, Bool.xor_assoc, Bool.xor_left_comm]
  simp only [crcBit_eq_xor, hfb, cond_xor, BitVec.ushiftRight_xor_distrib]
  ac_rfl

theorem crcFoldLoop_xor (poly : Half) (n : Nat) (a a' : Half) (w w' : Word) :
    crcFoldLoop poly n (a ^^^ a') (w ^^^ w') = crcFoldLoop poly n a w ^^^ crcFoldLoop poly n a' w' := by
  induction n generalizing a a' w w' with
  | zero => rfl
  | succ n ih => simp only [crcFoldLoop_succ, BitVec.getLsbD_xor, crcBit_xor, BitVec.ushiftRight_xor_distrib, ih]

theorem crcFold_xor (poly a a' : Half) (w w' : Word) :
    crcFold (a ^^^ a') poly (w ^^^ w') = crcFold a poly w ^^^ crcFold a' poly w' :=
  crcFoldLoop_xor poly 32 a a' w w'

/-- Zeros stay 0: the fold of zeros is its own XOR with itself. -/
theorem crcFoldLoop_zero (poly : Half) (n : Nat) : crcFoldLoop poly n 0#16 0#32 = 0#16 := by
  simpa using crcFoldLoop_xor poly n 0#16 0#16 0#32 0#32

/-! A polynomial with bit 15 set loses nothing of the accumulator (R71). -/

/-- Both polynomials have bit 15 set. -/
theorem cksPolyOf_top (m : Mode) : (cksPolyOf m).getLsbD 15 = true := by
  cases m <;> rfl

/-- The two polynomials are those of the two modes (R67). -/
theorem eq_cksPolyOf {p : Half} (h : p = 0xA517#16 ∨ p = 0xC37B#16) : ∃ m, p = cksPolyOf m := by
  obtain rfl | rfl := h
  · exact ⟨.peerToPeer, rfl⟩
  · exact ⟨.singleHost, rfl⟩

/-- Bit 15 of the new accumulator is the feedback. -/
theorem crcBit_top {poly : Half} (htop : poly.getLsbD 15 = true) (a : Half) (b : Bool) :
    (crcBit poly a b).getLsbD 15 = (a.getLsbD 0 ^^ b) := by
  unfold crcBit
  cases a.getLsbD 0 ^^ b <;> simp [htop]

/-- The new accumulator gives back the bit that was shifted out, and so the others. -/
theorem crcBit_injective {poly : Half} (htop : poly.getLsbD 15 = true) (b : Bool) :
    Function.Injective fun a => crcBit poly a b := by
  intro a a' h
  have hlow : a.getLsbD 0 = a'.getLsbD 0 := by
    have h15 := congrArg (fun x : Half => x.getLsbD 15) h
    simpa only [crcBit_top htop, Bool.xor_left_inj] using h15
  have hshift : a >>> 1 = a' >>> 1 := by
    simpa only [crcBit_eq_xor, hlow, BitVec.xor_left_inj] using h
  apply BitVec.eq_of_getLsbD_eq
  intro k _
  cases k with
  | zero => exact hlow
  | succ k =>
    have hk := congrArg (fun x : Half => x.getLsbD k) hshift
    simpa only [BitVec.getLsbD_ushiftRight, Nat.add_comm 1 k] using hk

theorem crcFoldLoop_injective {poly : Half} (htop : poly.getLsbD 15 = true) (n : Nat) (w : Word) :
    Function.Injective fun a => crcFoldLoop poly n a w := by
  induction n generalizing w with
  | zero => exact fun _ _ h => h
  | succ n ih =>
    intro a a' h
    simp only [crcFoldLoop_succ] at h
    exact crcBit_injective htop _ (ih _ h)

theorem crcFold_bijective {poly : Half} (htop : poly.getLsbD 15 = true) (w : Word) :
    Function.Bijective fun a => crcFold a poly w :=
  Finite.injective_iff_bijective.mp (crcFoldLoop_injective htop 32 w)

/-- Zero bits of the word keep a nonzero accumulator nonzero. -/
theorem crcFoldLoop_zero_ne {poly : Half} (htop : poly.getLsbD 15 = true) (n : Nat) {a : Half} (ha : a ≠ 0#16) :
    crcFoldLoop poly n a 0#32 ≠ 0#16 := by
  intro h
  exact ha (crcFoldLoop_injective htop n 0#32 (h.trans (crcFoldLoop_zero poly n).symm))

end Sys2Proof.Machine

namespace Sys2Proof

open Machine

/-- Settles O16: the loop is the iteration of the rule's loop body. -/
theorem crcFoldIterates32Times : Obligations.CrcFoldIterates32Times :=
  fun acc poly word => crcFoldLoop_eq_iterate poly 32 acc word

end Sys2Proof
end

section
/-! PROOFS. Words that differ by a power of two fold to different accumulators (40_checksum.md R71, R75). Such words
differ in a run of bits, and by linearity the two folds differ by the run's fold from 0. The accumulator is 0 below the
run; in the run it goes through what one bits make of 0, at most 32 values, none of them 0; above the run it stays
nonzero by R71. -/

namespace Sys2Proof.Machine

/-! Words whose set bits are a run. -/

/-- The set bits of `w` are `b` and a run of the bits above it. -/
structure IsRunFrom (b : Nat) (w : Word) : Prop where
  below : ∀ i < b, w.getLsbD i = false
  start : w.getLsbD b = true
  above : ∀ i, b ≤ i → w.getLsbD (i + 1) = true → w.getLsbD i = true

theorem IsRunFrom.shift {b : Nat} {w : Word} (h : IsRunFrom (b + 1) w) : IsRunFrom b (w >>> 1) where
  below i hi := by simpa [Nat.add_comm] using h.below (i + 1) (by omega)
  start := by simpa [Nat.add_comm] using h.start
  above i hi := by simpa [Nat.add_comm] using h.above (i + 1) (by omega)

/-- A run from bit 0, shifted, is another one or 0. -/
theorem IsRunFrom.shift_zero {w : Word} (h : IsRunFrom 0 w) : w >>> 1 = 0#32 ∨ IsRunFrom 0 (w >>> 1) := by
  have above (i : Nat) : (w >>> 1).getLsbD (i + 1) = true → (w >>> 1).getLsbD i = true := by
    simpa [Nat.add_comm] using h.above (i + 1) (by omega)
  cases hw : (w >>> 1).getLsbD 0 with
  | true => exact .inr ⟨by simp, hw, fun i _ => above i⟩
  | false =>
    left
    have hzero (i : Nat) : (w >>> 1).getLsbD i = false := by
      induction i with
      | zero => exact hw
      | succ i ih => exact Bool.eq_false_iff.mpr fun hi => by simp [above i hi] at ih
    exact BitVec.eq_of_getLsbD_eq fun i _ => by simp [hzero]

/-! The fold of a run from the accumulator 0 (R75). -/

/-- The accumulator that `k` one bits make of 0. -/
def accAfterOnes (poly : Half) : Nat → Half
  | 0 => 0#16
  | k + 1 => crcBit poly (accAfterOnes poly k) true

/-- One more one bit. -/
theorem crcBit_accAfterOnes (poly : Half) (k : Nat) :
    crcBit poly (accAfterOnes poly k) true = accAfterOnes poly (k + 1) := rfl

/-- As many one bits as a word has at most do not bring the accumulator back to 0 (the check of R75). -/
theorem accAfterOnes_ne_zero (m : Mode) : ∀ k < 33, 0 < k → accAfterOnes (cksPolyOf m) k ≠ 0#16 := by
  cases m <;> decide

/-- In the run the accumulator goes on to one more one bit; above it zero bits keep it nonzero. -/
theorem crcFoldLoop_ones_ne_zero (m : Mode) (n : Nat) {j : Nat} (hj : j + n < 32) {w : Word}
    (hw : IsRunFrom 0 w) : crcFoldLoop (cksPolyOf m) (n + 1) (accAfterOnes (cksPolyOf m) j) w ≠ 0#16 := by
  induction n generalizing j w with
  | zero =>
    rw [crcFoldLoop_succ, hw.start, crcBit_accAfterOnes]
    exact accAfterOnes_ne_zero m (j + 1) (by omega) (by omega)
  | succ n ih =>
    rw [crcFoldLoop_succ, hw.start, crcBit_accAfterOnes]
    obtain hzero | hrun := hw.shift_zero
    · rw [hzero]
      exact crcFoldLoop_zero_ne (cksPolyOf_top m) (n + 1) (accAfterOnes_ne_zero m (j + 1) (by omega) (by omega))
    · exact ih (by omega) hrun

/-- The zero bits below the run leave the accumulator 0, from which the run starts. -/
theorem crcFoldLoop_run_ne_zero (m : Mode) {b : Nat} (n : Nat) (hn : b + n < 32) {w : Word} (hw : IsRunFrom b w) :
    crcFoldLoop (cksPolyOf m) (b + n + 1) 0#16 w ≠ 0#16 := by
  induction b generalizing w with
  | zero =>
    rw [Nat.zero_add]
    exact crcFoldLoop_ones_ne_zero m n (j := 0) hn hw
  | succ b ih =>
    have hbit : crcBit (cksPolyOf m) 0#16 (w.getLsbD 0) = 0#16 := by
      rw [hw.below 0 (by omega)]
      simp [crcBit]
    rw [show b + 1 + n = b + n + 1 by omega, crcFoldLoop_succ, hbit]
    exact ih (by omega) hw.shift

/-- By linearity, words that differ in a run fold to different accumulators. -/
theorem crcFold_ne_of_run (m : Mode) (a : Half) {b : Nat} (hb : b < 32) {w w' : Word} (h : IsRunFrom b (w ^^^ w')) :
    crcFold a (cksPolyOf m) w ≠ crcFold a (cksPolyOf m) w' := by
  intro heq
  have hdiff : crcFold 0#16 (cksPolyOf m) (w ^^^ w') = 0#16 := by
    simpa [heq] using crcFold_xor (cksPolyOf m) a a w w'
  have hne := crcFoldLoop_run_ne_zero m (b := b) (31 - b) (by omega) h
  rw [show b + (31 - b) + 1 = 32 by omega] at hne
  exact hne hdiff

/-! What adding 2^b changes in a word: bit `b`, and the run of bits that the carry reaches (R75). -/

theorem getLsbD_one_shiftLeft {b : Nat} (hb : b < 32) (i : Nat) : (1#32 <<< b).getLsbD i = decide (b = i) := by
  rw [show 1#32 <<< b = BitVec.twoPow 32 b from rfl, BitVec.getLsbD_twoPow]
  simp [hb]

/-- No carry enters a bit up to `b`. -/
theorem carry_one_shiftLeft_below (x : Word) {b : Nat} (hb : b < 32) {i : Nat} (hi : i ≤ b) :
    BitVec.carry i x (1#32 <<< b) false = false := by
  induction i with
  | zero => simp
  | succ i ih => simp [BitVec.carry_succ, getLsbD_one_shiftLeft hb, ih (by omega), show b ≠ i by omega]

/-- The bits that adding 2^b changes: bit `b`, and those that its carry reaches. -/
theorem getLsbD_add_xor (x : Word) {b : Nat} (hb : b < 32) {i : Nat} (hi : i < 32) :
    ((x + 1#32 <<< b) ^^^ x).getLsbD i = (decide (b = i) ^^ BitVec.carry i x (1#32 <<< b) false) := by
  rw [BitVec.getLsbD_xor, BitVec.getLsbD_add hi, getLsbD_one_shiftLeft hb]
  cases x.getLsbD i <;> simp

/-- A carry reaches bit `i + 1` only through bit `i`, which it changes. -/
theorem isRunFrom_add_xor (x : Word) {b : Nat} (hb : b < 32) : IsRunFrom b ((x + 1#32 <<< b) ^^^ x) where
  below i hi := by
    rw [getLsbD_add_xor x hb (by omega), carry_one_shiftLeft_below x hb hi.le]
    simp [show b ≠ i by omega]
  start := by
    rw [getLsbD_add_xor x hb hb, carry_one_shiftLeft_below x hb le_rfl]
    simp
  above i hi h := by
    have hi32 : i + 1 < 32 := BitVec.lt_of_getLsbD h
    rw [getLsbD_add_xor x hb hi32, BitVec.carry_succ, getLsbD_one_shiftLeft hb] at h
    rw [getLsbD_add_xor x hb (by omega)]
    obtain rfl | hlt := hi.eq_or_lt
    · simp [carry_one_shiftLeft_below x hb le_rfl]
    · simp only [show b ≠ i by omega, show b ≠ i + 1 by omega, decide_false, Bool.false_xor,
        Bool.atLeastTwo_false_mid, Bool.and_eq_true] at h ⊢
      exact h.2

/-- Setting a clear bit adds its power of two. -/
theorem xor_one_shiftLeft_eq_add {x : Word} {b : Nat} (hb : b < 32) (hx : x.getLsbD b = false) :
    x ^^^ (1#32 <<< b) = x + 1#32 <<< b := by
  have hand : x &&& (1#32 <<< b) = 0#32 := by
    rw [show 1#32 <<< b = BitVec.twoPow 32 b from rfl, BitVec.and_twoPow, hx]
    rfl
  rw [BitVec.add_eq_or_of_and_eq_zero _ _ hand]
  apply BitVec.eq_of_getLsbD_eq
  intro i _
  simp only [BitVec.getLsbD_xor, BitVec.getLsbD_or, getLsbD_one_shiftLeft hb]
  by_cases hi : b = i
  · simp [← hi, hx]
  · simp [hi]

/-- A change of one bit of an addend of the word changes the fold: one of the two sums is the other plus 2^b (R75). -/
theorem crcFold_flip_add_ne (m : Mode) (a : Half) (x y : Word) {b : Nat} (hb : b < 32) :
    crcFold a (cksPolyOf m) ((x ^^^ (1#32 <<< b)) + y) ≠ crcFold a (cksPolyOf m) (x + y) := by
  cases hx : x.getLsbD b with
  | false =>
    rw [xor_one_shiftLeft_eq_add hb hx, add_right_comm]
    exact crcFold_ne_of_run m a hb (isRunFrom_add_xor _ hb)
  | true =>
    have hflip : (x ^^^ (1#32 <<< b)).getLsbD b = false := by
      simp [getLsbD_one_shiftLeft hb, hx]
    have hback : x = (x ^^^ (1#32 <<< b)) + 1#32 <<< b := by
      rw [← xor_one_shiftLeft_eq_add hb hflip, BitVec.xor_assoc, BitVec.xor_self, BitVec.xor_zero]
    generalize x ^^^ (1#32 <<< b) = z at hback
    rw [hback, add_right_comm]
    exact (crcFold_ne_of_run m a hb (isRunFrom_add_xor _ hb)).symm

/-- A change of one bit of the word itself (R71). -/
theorem crcFold_flip_ne (m : Mode) (a : Half) (w : Word) {b : Nat} (hb : b < 32) :
    crcFold a (cksPolyOf m) (w ^^^ (1#32 <<< b)) ≠ crcFold a (cksPolyOf m) w := by
  simpa only [BitVec.add_zero] using crcFold_flip_add_ne m a w 0#32 hb

end Sys2Proof.Machine
end

section
/-! PROOFS. The finalize word (40_checksum.md R69, R70), and what R71 says of the words fed to the fold. -/

namespace Sys2Proof.Machine

/-! Only the low byte of headerLow shows under the ones of 0xFFFF0000 (R70). -/

theorem getLsbD_upperHalf (i : Nat) : (0xFFFF0000#32).getLsbD i = (decide (16 ≤ i) && decide (i < 32)) := by
  rw [show 0xFFFF0000#32 = BitVec.allOnes 16 ++ 0#16 by rfl, BitVec.getLsbD_append, BitVec.getLsbD_allOnes,
    BitVec.getLsbD_zero]
  by_cases h : i < 16
  · simp [h]
  · simp [h, show 16 ≤ i by omega, show i - 16 < 16 ↔ i < 32 by omega]

/-- Of a word shifted left by 8 under the ones of 0xFFFF0000, the low byte shows. -/
theorem shiftLeft_or_upperHalf {x y : Word} (h : x.setWidth 8 = y.setWidth 8) :
    (x <<< 8) ||| 0xFFFF0000#32 = (y <<< 8) ||| 0xFFFF0000#32 := by
  apply BitVec.eq_of_getLsbD_eq
  intro i hi
  simp only [BitVec.getLsbD_or, BitVec.getLsbD_shiftLeft, getLsbD_upperHalf, hi]
  by_cases hlow : i - 8 < 8
  · have hbit : x.getLsbD (i - 8) = y.getLsbD (i - 8) := by
      simpa [hlow] using congrArg (fun z : BitVec 8 => z.getLsbD (i - 8)) h
    rw [hbit]
  · simp [show 16 ≤ i by omega]

theorem setWidth_and_lowByte (x : Word) : (x &&& 0xFF#32).setWidth 8 = x.setWidth 8 := by
  rw [BitVec.setWidth_and]
  exact BitVec.and_allOnes

/-- The data word's bits 15:8 do not carry into the low byte of headerLow. -/
theorem setWidth_dataBits_add (word hl : Word) : ((word &&& 0xFF00#32) + hl).setWidth 8 = hl.setWidth 8 := by
  have hdata : (word &&& 0xFF00#32).setWidth 8 = 0#8 := by
    rw [BitVec.setWidth_and]
    exact BitVec.and_zero
  rw [BitVec.setWidth_add _ _ (by omega), hdata, BitVec.zero_add]

theorem crcCompose_closedForm (word hh hl : Word) :
    crcCompose word hh hl = (0xFFFF0000#32 ||| ((hl &&& 0xFF#32) <<< 8)) + hh := by
  unfold crcCompose
  rw [shiftLeft_or_upperHalf (y := hl &&& 0xFF#32) (by rw [setWidth_dataBits_add, setWidth_and_lowByte]),
    BitVec.or_comm]

/-- The finalize word depends on headerHigh and the low byte of headerLow only. -/
theorem crcCompose_congr {hl hl' : Word} (h : hl.setWidth 8 = hl'.setWidth 8) (word word' hh : Word) :
    crcCompose word hh hl = crcCompose word' hh hl' := by
  unfold crcCompose
  have hlow : ((word &&& 0xFF00#32) + hl).setWidth 8 = ((word' &&& 0xFF00#32) + hl').setWidth 8 := by
    rw [setWidth_dataBits_add, setWidth_dataBits_add, h]
  rw [shiftLeft_or_upperHalf hlow]

/-! One bit of headerLow changed (R75). -/

/-- Bits that the mask leaves clear are XORed in before or after it. -/
theorem or_xor_of_and_eq_zero {m y : Word} (h : m &&& y = 0#32) (x : Word) : m ||| (x ^^^ y) = (m ||| x) ^^^ y := by
  apply BitVec.eq_of_getLsbD_eq
  intro i hi
  have hbit : (m.getLsbD i && y.getLsbD i) = false := by
    simpa using congrArg (fun z : Word => z.getLsbD i) h
  simp only [BitVec.getLsbD_or, BitVec.getLsbD_xor]
  cases hm : m.getLsbD i with
  | false => simp
  | true => simpa [hm] using hbit

/-- Bits that the mask keeps are XORed in before or after it. -/
theorem xor_and_of_and_eq {m y : Word} (h : y &&& m = y) (x : Word) : (x ^^^ y) &&& m = (x &&& m) ^^^ y := by
  apply BitVec.eq_of_getLsbD_eq
  intro i hi
  have hbit : (y.getLsbD i && m.getLsbD i) = y.getLsbD i := by
    simpa only [BitVec.getLsbD_and] using congrArg (fun z : Word => z.getLsbD i) h
  simp only [BitVec.getLsbD_and, BitVec.getLsbD_xor]
  rw [Bool.and_xor_distrib_right, hbit]

/-- A bit of headerLow's low byte is the bit 8 places higher of the word that headerHigh is added to. -/
theorem crcCompose_flip_hl (word hh hl : Word) {b : Nat} (hb : b < 8) :
    crcCompose word hh (hl ^^^ (1#32 <<< b)) =
      ((0xFFFF0000#32 ||| ((hl &&& 0xFF#32) <<< 8)) ^^^ (1#32 <<< (b + 8))) + hh := by
  have hkept : (1#32 <<< b) &&& 0xFF#32 = 1#32 <<< b := by
    decide +revert
  have hclear : 0xFFFF0000#32 &&& (1#32 <<< (b + 8)) = 0#32 := by
    clear hkept
    decide +revert
  rw [crcCompose_closedForm, xor_and_of_and_eq hkept, BitVec.shiftLeft_xor_distrib, ← BitVec.shiftLeft_add,
    or_xor_of_and_eq_zero hclear]

/-- Bits 31:8 of headerLow lie outside its low byte. -/
theorem setWidth_flip_hl (hl : Word) {b : Nat} (hb : 8 ≤ b) : (hl ^^^ (1#32 <<< b)).setWidth 8 = hl.setWidth 8 := by
  have hbit : (1#32 <<< b).setWidth 8 = 0#8 := by
    apply BitVec.eq_of_getLsbD_eq
    intro i hi
    simp [show i < b by omega]
  rw [BitVec.setWidth_xor, hbit, BitVec.xor_zero]

end Sys2Proof.Machine

namespace Sys2Proof

open Machine

/-- Settles O17: linearity holds iteration by iteration, and bit 15 of the polynomial keeps the feedback. -/
theorem crcFoldLinearBijective : Obligations.CrcFoldLinearBijective := by
  refine ⟨fun a1 a2 p w1 w2 => crcFold_xor p a1 a2 w1 w2, fun p => crcFoldLoop_zero p 32, ?_, ?_⟩
  · intro p hp
    obtain ⟨m, rfl⟩ := eq_cksPolyOf hp
    have hbij := crcFold_bijective (cksPolyOf_top m)
    exact ⟨hbij, fun a w b hb => crcFold_flip_ne m a w hb, fun a a' w hne heq => hne ((hbij w).injective heq)⟩
  · intro a p opa opa' hh hl
    rw [crcCompose_congr rfl opa opa']

/-- Settles O18: the ones of 0xFFFF0000 cover all but the low byte of headerLow. -/
theorem crcComposeClosedForm : Obligations.CrcComposeClosedForm :=
  crcCompose_closedForm

end Sys2Proof
end

section
/-! PROOFS. The words of a command's row of the opcode table (30_encoding.md R58, R63). -/

namespace Sys2Proof

open Machine

theorem toNat_and_lowNibble (w : Word) : (w &&& 0xF#32).toNat = w.toNat % 16 :=
  (BitVec.toNat_and ..).trans (Nat.and_two_pow_sub_one_eq_mod w.toNat 4)

/-- The commands of an opcode share its row. -/
theorem tableRow_eq_of_opcode {i j : Instr} (h : i.opcode = j.opcode) : Laws.tableRow i = Laws.tableRow j := by
  cases i <;> cases j <;> simp [Instr.opcode] at h <;> rfl

theorem encodeCommand_tableRow (i : Instr) : encodeCommand i &&& (Laws.tableRow i).2 = (Laws.tableRow i).1 := by
  cases i with
  | crcInit m => exact Laws.TableRow.crcInit m
  | crcAcc => exact Laws.TableRow.crcAcc
  | crcFin => exact Laws.TableRow.crcFin
  | ciphInit m => exact Laws.TableRow.ciphInit m
  | ciphXform => exact Laws.TableRow.ciphXform
  | seqStart => exact Laws.TableRow.seqStart

theorem opcode_listed (i : Instr) : 1 ≤ i.opcode.toNat ∧ i.opcode.toNat ≤ 6 := by
  cases i <;> simp [Instr.opcode]

/-- A word with a listed opcode outside the row of that opcode is RSVD_BITS. -/
theorem decodeCommand_off_tableRow {w : Word} {i : Instr} (hop : w &&& 0xF#32 = i.opcode.setWidth 32)
    (hrow : w &&& (Laws.tableRow i).2 ≠ (Laws.tableRow i).1) : decodeCommand w = .error .rsvdBits := by
  have hnum : w.toNat % 16 = i.opcode.toNat := by
    rw [← toNat_and_lowNibble, hop, BitVec.toNat_setWidth_of_le (by omega)]
  obtain ⟨hreserved, _⟩ | ⟨_, _, hd⟩ | ⟨_, j, hd⟩ := decodeCommand_cases w
  · rw [hnum] at hreserved
    exact absurd (opcode_listed i) hreserved
  · exact hd
  · obtain rfl := eq_encodeCommand_of_decodeCommand hd
    have hij : j.opcode = i.opcode := by
      apply BitVec.eq_of_toNat_eq
      rw [← hnum, ← encodeCommand_op j, ← fieldsOfWord_op_toNat]
      rfl
    exact absurd (encodeCommand_tableRow j) (tableRow_eq_of_opcode hij ▸ hrow)

/-- A command with one word: its other words are RSVD_BITS. -/
theorem decodeCommand_of_ne_word {w : Word} {i : Instr} (hmask : (Laws.tableRow i).2 = 0xFFFFFFFF#32)
    (hop : w &&& 0xF#32 = i.opcode.setWidth 32) (hne : w ≠ (Laws.tableRow i).1) :
    decodeCommand w = .error .rsvdBits := by
  apply decodeCommand_off_tableRow hop
  rw [hmask, show w &&& 0xFFFFFFFF#32 = w from BitVec.and_allOnes]
  exact hne

/-- The mode that bit 4 of a word selects (R60). -/
def modeOfWord (w : Word) : Mode :=
  if w.getLsbD 4 then .peerToPeer else .singleHost

/-- A word is its bits under the mask of a command with a mode, and the MODE bit. -/
theorem eq_or_modeBit_of_and {w k : Word} (h : w &&& 0xFFFFFFEF#32 = k) :
    w = k ||| ((modeOfWord w).bit.setWidth 32 <<< 4) := by
  have hmode : ((modeOfWord w).bit.setWidth 32 <<< 4) = w &&& 0x10#32 := by
    rw [show 0x10#32 = BitVec.twoPow 32 4 by rfl, BitVec.and_twoPow]
    unfold modeOfWord
    cases w.getLsbD 4 <;> rfl
  rw [hmode, ← h, ← BitVec.and_or_distrib_left]
  exact BitVec.and_allOnes.symm

end Sys2Proof
end

section
/-! PROOFS. The commands of CKS (40_checksum.md R72 to R76). -/

namespace Sys2Proof.Machine

/-! What CRC.ACC and CRC.FIN do in both cases of CKS_CTL.V (R73, R74). -/

theorem exec_crcAcc {s : State} (hv : s.cksV = true) : exec .crcAcc s =
    .next (putChecksum (crcFold s.cksAcc s.cksPoly s.opa) (setCmdstat 0x2#4 .ok s)) :=
  if_pos hv

theorem exec_crcAcc_notInit {s : State} (hv : s.cksV = false) :
    exec .crcAcc s = .next (setCmdstat 0x2#4 .notInit s) :=
  if_neg (Bool.eq_false_iff.mp hv)

theorem exec_crcFin {s : State} (hv : s.cksV = true) : exec .crcFin s =
    .next (putChecksum (crcFold s.cksAcc s.cksPoly (crcCompose s.opa s.cksHh s.cksHl)) (setCmdstat 0x3#4 .ok s)) :=
  if_pos hv

theorem exec_crcFin_notInit {s : State} (hv : s.cksV = false) :
    exec .crcFin s = .next (setCmdstat 0x3#4 .notInit s) :=
  if_neg (Bool.eq_false_iff.mp hv)

theorem result_of_crcAcc {s t : State} (h : exec .crcAcc s = .next t) (hv : s.cksV = true) :
    t.result = (crcFold s.cksAcc s.cksPoly s.opa).setWidth 32 := by
  rw [exec_crcAcc hv] at h
  cases h
  rfl

theorem result_of_crcFin {s t : State} (h : exec .crcFin s = .next t) (hv : s.cksV = true) :
    t.result = (crcFold s.cksAcc s.cksPoly (crcCompose s.opa s.cksHh s.cksHl)).setWidth 32 := by
  rw [exec_crcFin hv] at h
  cases h
  rfl

/-- RESULT shows all of the accumulator. -/
theorem setWidth_32_ne {a a' : Half} (h : a ≠ a') : a.setWidth 32 ≠ a'.setWidth 32 := by
  intro heq
  apply h
  simpa using congrArg (BitVec.setWidth 16) heq

/-- The fold of 0x50D5 from the initial accumulator is the same in both modes (R76). -/
theorem crcFold_acc0_collides (m : Mode) : crcFold (cksAcc0Of m) (cksPolyOf m) 0x000050D5#32 = 0x7138#16 := by
  cases m <;> decide +kernel

end Sys2Proof.Machine

namespace Sys2Proof

open Machine

/-- Settles O19: the next state is its definition's, and the word is its row's with the mode bit put back. -/
theorem crcInitCompletes : Obligations.CrcInitCompletes := by
  refine ⟨fun _ => rfl, fun _ => rfl, ?words,
    fun _ hop hrow => decodeCommand_off_tableRow (i := .crcInit .singleHost) hop hrow⟩
  case words =>
    intro w hw
    calc
      decodeCommand w = decodeCommand (encodeCommand (.crcInit (modeOfWord w))) := by
        rw [← encodeCommand_crcInit, ← eq_or_modeBit_of_and hw]
      _ = .ok (.crcInit (modeOfWord w)) := decodeCommand_encodeCommand _

/-- Settles O20: both cases of CKS_CTL.V, and the one word of the opcode's row. -/
theorem crcAccCompletes : Obligations.CrcAccCompletes :=
  ⟨fun _ hv => exec_crcAcc hv, fun _ hv => exec_crcAcc_notInit hv, decodeCommand_encodeCommand .crcAcc,
    fun _ hop hne => decodeCommand_of_ne_word (i := .crcAcc) rfl hop hne⟩

/-- Settles O21: both cases of CKS_CTL.V, and the one word of the opcode's row. -/
theorem crcFinCompletes : Obligations.CrcFinCompletes :=
  ⟨fun _ hv => exec_crcFin hv, fun _ hv => exec_crcFin_notInit hv, decodeCommand_encodeCommand .crcFin,
    fun _ hop hne => decodeCommand_of_ne_word (i := .crcFin) rfl hop hne⟩

/-- Settles O22: RESULT is the whole accumulator, headerHigh and the low byte of headerLow are addends of the
word it folds, and the rest does not reach that word. -/
theorem checksumSingleBitChanges : Obligations.ChecksumSingleBitChanges := by
  intro s t hv hp
  obtain ⟨m, hm⟩ := eq_cksPolyOf hp
  refine ⟨?word, ?headerHigh, ?headerLowByte, ?headerLowRest, ?finWord⟩
  case word =>
    intro b u hb ht hu
    simp only [result_of_crcAcc ht hv, result_of_crcAcc hu hv, hm]
    exact setWidth_32_ne (crcFold_flip_ne m _ _ hb)
  case headerHigh =>
    intro b u hb ht hu
    simp only [result_of_crcFin ht hv, result_of_crcFin hu hv, hm, crcCompose_closedForm,
      BitVec.add_comm (0xFFFF0000#32 ||| _)]
    exact setWidth_32_ne (crcFold_flip_add_ne m _ _ _ hb)
  case headerLowByte =>
    intro b u hb ht hu
    simp only [result_of_crcFin ht hv, result_of_crcFin hu hv, hm]
    simp only [crcCompose_flip_hl _ _ _ hb, crcCompose_closedForm]
    exact setWidth_32_ne (crcFold_flip_add_ne m _ _ _ (by omega))
  case headerLowRest =>
    intro b u hb _ ht hu
    simp only [result_of_crcFin ht hv, result_of_crcFin hu hv,
      crcCompose_congr (setWidth_flip_hl s.cksHl hb) s.opa s.opa]
  case finWord =>
    intro w u ht hu
    simp only [result_of_crcFin ht hv, result_of_crcFin hu hv, crcCompose_congr rfl w s.opa]

/-- Settles O23: CRC.ACC folds 0x50D5, and CRC.FIN composes it. -/
theorem modesCollideSomewhere : Obligations.ModesCollideSomewhere := by
  refine ⟨fun m s => ?acc, fun m s => ?fin⟩
  case acc =>
    refine ⟨_, _, rfl, exec_crcAcc rfl, ?_⟩
    simp only [putChecksum_result, crcFold_acc0_collides]
    rfl
  case fin =>
    refine ⟨_, _, rfl, exec_crcFin rfl, ?_⟩
    have hword : crcCompose 0#32 0x000150D5#32 0#32 = 0x000050D5#32 := by decide
    simp only [putChecksum_result, hword, crcFold_acc0_collides]
    rfl

end Sys2Proof
end

section
/-! PROOFS. The seed step, the offset term and the mask of KSC (41_cipher.md R78, R79, R82). -/

namespace Sys2Proof.Machine

theorem kscOffset_eq_neg (p : Word) : kscOffset p = -(p + loadBase) :=
  (BitVec.neg_eq_not_add _).symm

/-- What CIPH.XFORM XORs onto the data (R82): the advanced seed, the offset term and the key. -/
def kscMask (seed key position : Word) : Word :=
  kscStep seed ^^^ kscOffset position ^^^ key

/-- The word CIPH.XFORM returns, in the order in which R81 writes it. -/
theorem xform_eq_xor_kscMask (seed key d p : Word) :
    kscStep seed ^^^ d ^^^ kscOffset p ^^^ key = d ^^^ kscMask seed key p := by
  rw [kscMask, BitVec.xor_comm _ d, BitVec.xor_assoc, BitVec.xor_assoc, BitVec.xor_assoc]

/-! Mod 4 the seed step is `3 * x + 1`, which flips bit 0 and keeps bit 1 (R84). -/

theorem toNat_mod_four (x : Word) : x.toNat % 4 = (x.setWidth 2).toNat :=
  (BitVec.toNat_setWidth 2 x).symm

theorem setWidth_kscStep (x : Word) : (kscStep x).setWidth 2 = x.setWidth 2 ^^^ 1#2 := by
  have hlow : ∀ y : BitVec 2, y * 3#2 + 1#2 = y ^^^ 1#2 := by decide
  calc
    (kscStep x).setWidth 2 = x.setWidth 2 * 3#2 + 1#2 := by
      unfold kscStep
      rw [BitVec.setWidth_add _ _ (by omega), BitVec.setWidth_mul _ _ (by omega)]
      rfl
    _ = x.setWidth 2 ^^^ 1#2 := hlow _

theorem setWidth_kscOffset_congr {p q : Word} (h : p.toNat % 4 = q.toNat % 4) :
    (kscOffset p).setWidth 2 = (kscOffset q).setWidth 2 := by
  have hpq : p.setWidth 2 = q.setWidth 2 := by
    apply BitVec.eq_of_toNat_eq
    rw [← toNat_mod_four, ← toNat_mod_four, h]
  simp only [kscOffset, BitVec.setWidth_add _ _ (show 2 ≤ 32 by omega),
    BitVec.setWidth_not (show 2 ≤ 32 by omega), hpq]

/-- At positions congruent mod 4 the next mask differs from this one, in bit 0. -/
theorem kscMask_step_ne (seed key : Word) {p q : Word} (h : p.toNat % 4 = q.toNat % 4) :
    kscMask (kscStep seed) key q ≠ kscMask seed key p := by
  have hflip : ∀ y : BitVec 2, y ^^^ 1#2 ≠ y := by decide
  intro heq
  have hlow := congrArg (BitVec.setWidth 2) heq
  simp only [kscMask, BitVec.setWidth_xor, setWidth_kscOffset_congr h, BitVec.xor_left_inj] at hlow
  rw [setWidth_kscStep (kscStep seed)] at hlow
  exact hflip _ hlow

end Sys2Proof.Machine
end

section
/-! PROOFS. The commands of KSC (41_cipher.md R79 to R81, R84, R85). -/

namespace Sys2Proof.Machine

/-- What CIPH.INIT leaves in KSC, in either mode (R80). -/
theorem exec_ciphInit_ksc (m : Mode) (s : State) : ∃ t, exec (.ciphInit m) s = .next t ∧
    t.kscV = true ∧ t.kscSeed = s.opa ∧ t.kscKey = kscKeyOf s.params m :=
  ⟨_, rfl, rfl, rfl, rfl⟩

/-! What CIPH.XFORM does in both cases of KSC_CTL.V (R81). -/

theorem exec_ciphXform {s : State} (hv : s.kscV = true) : exec .ciphXform s =
    .next { setCmdstat 0x5#4 .ok s with
      kscSeed := kscStep s.kscSeed
      result := kscStep s.kscSeed ^^^ s.opa ^^^ kscOffset s.opb ^^^ s.kscKey } :=
  if_pos hv

theorem exec_ciphXform_notInit {s : State} (hv : s.kscV = false) :
    exec .ciphXform s = .next (setCmdstat 0x5#4 .notInit s) :=
  if_neg (Bool.eq_false_iff.mp hv)

/-- A CIPH.XFORM that is served masks OPA and advances the seed, and the rest of KSC stays (R81). -/
theorem ksc_of_ciphXform {s t : State} (h : exec .ciphXform s = .next t) (hv : s.kscV = true) :
    t.kscV = true ∧ t.kscSeed = kscStep s.kscSeed ∧ t.kscKey = s.kscKey ∧
      t.result = s.opa ^^^ kscMask s.kscSeed s.kscKey s.opb := by
  rw [exec_ciphXform hv] at h
  cases h
  exact ⟨hv, rfl, rfl, xform_eq_xor_kscMask ..⟩

/-- Two CIPH.XFORM commands in a row: the second masks with the advanced seed. -/
theorem result_of_ciphXform_twice {s t u : State} {d d' p q : Word} (hv : s.kscV = true)
    (ht : exec .ciphXform { s with opa := d, opb := p } = .next t)
    (hu : exec .ciphXform { t with opa := d', opb := q } = .next u) :
    t.result = d ^^^ kscMask s.kscSeed s.kscKey p ∧
      u.result = d' ^^^ kscMask (kscStep s.kscSeed) s.kscKey q := by
  obtain ⟨htv, hseed, hkey, hres⟩ := ksc_of_ciphXform ht hv
  obtain ⟨_, _, _, hres'⟩ := ksc_of_ciphXform hu htv
  rw [hseed, hkey] at hres'
  exact ⟨hres, hres'⟩

end Sys2Proof.Machine

namespace Sys2Proof

open Machine

/-- Settles O24: a negation is a complement plus one, and the examples are computed. -/
theorem kscOffsetIsNegation : Obligations.KscOffsetIsNegation :=
  ⟨fun p => ⟨rfl, kscOffset_eq_neg p⟩, by decide, by decide, by decide, by decide⟩

/-- Settles O25: the next state is its definition's, and the word is its row's with the mode bit put back. -/
theorem ciphInitCompletes : Obligations.CiphInitCompletes := by
  refine ⟨fun _ => rfl, fun _ => rfl, ?words,
    fun _ hop hrow => decodeCommand_off_tableRow (i := .ciphInit .singleHost) hop hrow⟩
  case words =>
    intro w hw
    have hword : w = encodeCommand (.ciphInit (modeOfWord w)) := by
      rw [← encodeCommand_ciphInit, ← eq_or_modeBit_of_and hw]
    exact (congrArg decodeCommand hword).trans (decodeCommand_encodeCommand _)

/-- Settles O26: both cases of KSC_CTL.V, and the one word of the opcode's row. -/
theorem ciphXformCompletes : Obligations.CiphXformCompletes :=
  ⟨fun _ hv => exec_ciphXform hv, fun _ hv => exec_ciphXform_notInit hv, decodeCommand_encodeCommand .ciphXform,
    fun _ hop hne => decodeCommand_of_ne_word (i := .ciphXform) rfl hop hne⟩

/-- Settles O29: the two masks differ in bit 0; the counterexample is computed. -/
theorem consecutiveMasksDiffer : Obligations.ConsecutiveMasksDiffer := by
  refine ⟨fun x => ?seeds, fun s t u d p q hv hpq ht hu => ?results, fun s t u d p q hv hpq ht hu => ?undo,
    fun s hv hseed => ?collision⟩
  case seeds =>
    rw [toNat_mod_four, BitVec.setWidth_xor, setWidth_kscStep, ← BitVec.xor_assoc, BitVec.xor_self,
      BitVec.zero_xor]
    rfl
  case results =>
    obtain ⟨htr, hur⟩ := result_of_ciphXform_twice hv ht hu
    rw [htr, hur, Ne, BitVec.xor_right_inj]
    exact kscMask_step_ne _ _ hpq
  case undo =>
    obtain ⟨htr, hur⟩ := result_of_ciphXform_twice hv ht hu
    intro heq
    simp only [hur, htr, BitVec.xor_assoc, xor_left_eq_self_iff, BitVec.ofNat_eq_ofNat,
      BitVec.xor_eq_zero_iff] at heq
    exact kscMask_step_ne _ _ hpq heq.symm
  case collision =>
    obtain ⟨t, ht⟩ := exec_next .ciphXform { s with opa := 0#32, opb := 0#32 }
    obtain ⟨u, hu⟩ := exec_next .ciphXform { t with opa := 0#32, opb := 7#32 }
    obtain ⟨htr, hur⟩ := result_of_ciphXform_twice hv ht hu
    have hfirst : kscStep 0x5E959C4E#32 ^^^ kscOffset 0#32 = 0x9A57FD0B#32 := by decide
    have hsecond : kscStep (kscStep 0x5E959C4E#32) ^^^ kscOffset 7#32 = 0x9A57FD0B#32 := by decide
    rw [hseed, BitVec.zero_xor, kscMask] at htr hur
    exact ⟨t, u, ht, hu, hfirst ▸ htr, hsecond ▸ hur⟩

/-- Settles O30: RESULT is OPA under a mask of the seed, the key and OPB. -/
theorem xformDependsOnlyOnCipherState : Obligations.XformDependsOnlyOnCipherState := by
  intro s s' t t' hv hv' hseed hkey hopa hopb ht ht'
  obtain ⟨_, htseed, _, htres⟩ := ksc_of_ciphXform ht hv
  obtain ⟨_, htseed', _, htres'⟩ := ksc_of_ciphXform ht' hv'
  rw [htres, htres', htseed, htseed', hseed, hkey, hopa, hopb]
  exact ⟨rfl, rfl⟩

end Sys2Proof
end

section
/-! PROOFS. Streams of CIPH.XFORM commands (41_cipher.md R82, R83). -/

namespace Sys2Proof.Safety

open Machine

/-- The head of a list indexed by iterates takes the starting value, and the tail starts one iterate later. -/
theorem mapIdx_iterate_cons {α β γ : Type} (f : α → α) (g : α → β → γ) (x : α) (b : β) (bs : List β) :
    (b :: bs).mapIdx (fun i => g (f^[i] x)) = g x b :: bs.mapIdx (fun i => g (f^[i] (f x))) :=
  List.mapIdx_cons

/-- The results of a stream from a seed and a key: the i-th data under the mask of the seed advanced i times
(R82). -/
def maskedStream (seed key : Word) (dps : List (Word × Word)) : List Word :=
  dps.mapIdx fun i dp => dp.1 ^^^ kscMask (kscStep^[i] seed) key dp.2

@[simp] theorem maskedStream_nil (seed key : Word) : maskedStream seed key [] = [] := rfl

@[simp] theorem maskedStream_cons (seed key d p : Word) (rest : List (Word × Word)) :
    maskedStream seed key ((d, p) :: rest) =
      (d ^^^ kscMask seed key p) :: maskedStream (kscStep seed) key rest :=
  mapIdx_iterate_cons kscStep (fun x (dp : Word × Word) => dp.1 ^^^ kscMask x key dp.2) seed (d, p) rest

/-- The masks depend on the positions and not on the data, so a second pass takes them off again (R82). -/
theorem maskedStream_replay (seed key : Word) (dps : List (Word × Word)) :
    maskedStream seed key ((maskedStream seed key dps).zip (dps.map Prod.snd)) = dps.map Prod.fst := by
  induction dps generalizing seed with
  | nil => rfl
  | cons dp rest ih =>
    obtain ⟨d, p⟩ := dp
    simp only [maskedStream_cons, List.map_cons, List.zip_cons_cons, xor_cancel_right, ih]

/-- What a stream of CIPH.XFORM commands returns and leaves in KSC (R82, R83). -/
theorem xformStream_eq (dps : List (Word × Word)) {s : State} (hv : s.kscV = true) :
    ∃ u, xformStream dps s = some (maskedStream s.kscSeed s.kscKey dps, u) ∧
      u.kscSeed = kscStep^[dps.length] s.kscSeed ∧ u.kscKey = s.kscKey := by
  induction dps generalizing s with
  | nil => exact ⟨s, rfl, rfl, rfl⟩
  | cons dp rest ih =>
    obtain ⟨d, p⟩ := dp
    obtain ⟨t, ht⟩ := exec_next .ciphXform { s with opa := d, opb := p }
    obtain ⟨htv, htseed, htkey, htres⟩ := ksc_of_ciphXform ht hv
    obtain ⟨u, hu, huseed, hukey⟩ := ih htv
    rw [htseed, htkey] at hu
    refine ⟨u, ?_, ?_, hukey.trans htkey⟩
    · simp only [xformStream, ht, hu, htres, maskedStream_cons]
    · rw [huseed, htseed, List.length_cons, Function.iterate_succ_apply]

end Sys2Proof.Safety

namespace Sys2Proof

open Machine Safety

/-- Settles O27: CIPH.INIT fixes the seed and the key, and a stream from the same seed and key has the same
masks. -/
theorem cipherReplayDecodes : Obligations.CipherReplayDecodes := by
  intro m seed dps s s' hparams
  obtain ⟨t, ht, htv, htseed, htkey⟩ := exec_ciphInit_ksc m { s with opa := seed }
  obtain ⟨t', ht', htv', htseed', htkey'⟩ := exec_ciphInit_ksc m { s' with opa := seed }
  obtain ⟨u, hu, _, _⟩ := xformStream_eq dps htv
  obtain ⟨u', hu', _, _⟩ :=
    xformStream_eq ((maskedStream seed (kscKeyOf s.params m) dps).zip (dps.map Prod.snd)) htv'
  simp only [htseed, htkey] at hu
  simp only [htseed', htkey', hparams, maskedStream_replay] at hu'
  refine ⟨t, _, u, t', u', ht, hu, ?masks, ht', hu'⟩
  case masks =>
    unfold maskedStream
    congr 1
    funext i dp
    rw [kscMask, kscOffset_eq_neg, Function.iterate_succ_apply']
    cases m <;> rfl

/-- Settles O28: after either stream the seed is advanced once for each command. -/
theorem streamPositionIsOnlyTheSeed : Obligations.StreamPositionIsOnlyTheSeed := by
  intro xs ys s hv hlen
  obtain ⟨u, hu, huseed, hukey⟩ := xformStream_eq xs hv
  obtain ⟨v, hvs, hvseed, hvkey⟩ := xformStream_eq ys hv
  exact ⟨_, _, u, v, hu, hvs, by rw [huseed, hvseed, hlen], hukey, hvkey, huseed⟩

end Sys2Proof
end

section
/-! PROOFS. A turn of SEQ in each state of SEQ (42_sequencer.md R86, R89 to R100): what it asks of the link, and
what it does where it asks nothing, where the answer lets the session go on, and where a transport error ends it. -/

namespace Sys2Proof.Machine

/-- A step that is a turn of SEQ. -/
theorem step_seq {s : State} {ans : Option LinkAnswer} {turns : List Turn}
    (hs : s.schedule = .seq ans :: turns) : step s = .next (seqTurn ans { s with schedule := turns }) :=
  step_cons hs

/-- A step that is a tick. -/
theorem step_tick {s : State} {turns : List Turn} (hs : s.schedule = .tick :: turns) :
    step s = .next (tickTurn { s with schedule := turns }) :=
  step_cons hs

/-! The transaction that each state needs (60_exceptions.md R105). -/

@[simp] theorem linkRequest_withSchedule (s : State) (turns : List Turn) :
    linkRequest { s with schedule := turns } = linkRequest s := rfl

theorem linkRequest_bulk {s : State} (h : s.seqState = .sendingImage .bulk) :
    linkRequest s = some (.sendBulk s.params.image s.params.imageLen) := by
  simp only [linkRequest, h]

theorem linkRequest_probeW {s : State} (h : s.seqState = .awaitingAck .probeW) :
    linkRequest s = some (.writeWord probe) := by
  simp only [linkRequest, h]

theorem linkRequest_probeR {s : State} (h : s.seqState = .awaitingAck .probeR) :
    linkRequest s = some .readWord := by
  simp only [linkRequest, h]

theorem linkRequest_announce {s : State} (h : s.seqState = .announcingSize) :
    linkRequest s = some (.writeWord (announcedWords s)) := by
  simp only [linkRequest, h]

theorem linkRequest_stream {s : State} (h : s.seqState = .streaming) (hleft : wordsLeft s = true) :
    linkRequest s = some (.writeWord (payloadWord s)) := by
  simp only [linkRequest, h, hleft, if_true]

/-- Only BULK sends the image. -/
theorem linkRequest_eq_sendBulk {s : State} {image : List Byte} {len : Word}
    (h : linkRequest s = some (.sendBulk image len)) :
    s.seqState = .sendingImage .bulk ∧ len = s.params.imageLen := by
  unfold linkRequest at h
  split at h
  case h_3 hbulk => cases h; exact ⟨hbulk, rfl⟩
  case h_8 hstreaming => split at h <;> cases h
  all_goals cases h

/-- Only PROBE_R reads a word. -/
theorem linkRequest_eq_readWord {s : State} (h : linkRequest s = some .readWord) :
    s.seqState = .awaitingAck .probeR := by
  unfold linkRequest at h
  split at h
  case h_5 hprobeR => exact hprobeR
  case h_8 hstreaming => split at h <;> cases h
  all_goals cases h

/-! A turn without a transaction (42_sequencer.md R89, R94, R98, R100). -/

theorem seqTurn_check {s : State} (h : s.seqState = .sendingImage .check) (ans : Option LinkAnswer) :
    seqTurn ans s = seqCheck s := by
  simp only [seqTurn, linkRequest, seqLocalStep, h]

theorem seqTurn_wait {s : State} (h : s.seqState = .awaitingAck .wait) (ans : Option LinkAnswer) :
    seqTurn ans s = seqWaitExpiry s := by
  simp only [seqTurn, linkRequest, seqLocalStep, h]

theorem seqTurn_streamEnd {s : State} (h : s.seqState = .streaming) (hleft : wordsLeft s = false)
    (ans : Option LinkAnswer) : seqTurn ans s = seqVerify s := by
  simp [seqTurn, linkRequest, seqLocalStep, h, hleft]

/-- IDLE, DONE and FAILED are the states in which no session runs (R87). -/
theorem SeqState.busy_eq_false_iff (st : SeqState) :
    st.busy = false ↔ st = .idle ∨ st = .done ∨ st = .failed := by
  cases st <;> simp [SeqState.busy]

theorem seqTurn_of_not_busy {s : State} (h : s.seqState.busy = false) (ans : Option LinkAnswer) :
    seqTurn ans s = s := by
  obtain hst | hst | hst := s.seqState.busy_eq_false_iff.mp h <;>
    simp only [seqTurn, linkRequest, seqLocalStep, hst]

/-! An answered transaction (R99). -/

theorem seqTurn_answered {s : State} {q : LinkRequest} (hq : linkRequest s = some q) (r : LinkAnswer) :
    seqTurn (some r) s = seqTransact q r s := by
  simp only [seqTurn, hq]

/-- An answer that is OK, or an ERR under IGNORE, ends no session. -/
theorem requestAbort_eq_none {p : XportErrPolicy} {r : LinkAnswer}
    (h : ∀ code d, r = .err code d → p = .ignore) (q : LinkRequest) : requestAbort p q r = none := by
  have hcode : abortCode p r = none := by
    cases r with
    | ok v => cases p <;> rfl
    | err code d => rw [h code d rfl]; rfl
  cases q with
  | sendBulk => rfl
  | writeWord | readWord => exact hcode

theorem requestAbort_ok (p : XportErrPolicy) (q : LinkRequest) (v : Word) : requestAbort p q (.ok v) = none :=
  requestAbort_eq_none (fun _ _ h => by cases h) q

/-- A word written or read with an ERR answer under ABORT: the LINK event, then the end of the session. -/
theorem step_abort {s : State} {q : LinkRequest} {code d : Word} {turns : List Turn}
    (hs : s.schedule = .seq (some (.err code d)) :: turns) (hq : linkRequest s = some q)
    (hbulk : ∀ image len, q ≠ .sendBulk image len) (hp : s.params.xportErrPolicy = .abort) :
    step s = .next { s with
      schedule := turns, seqTerr := code, seqState := .failed, seqCode := .transport
      trace := s.trace ++ [q.event (.err code d)] } := by
  rw [step_seq hs, seqTurn_answered (by rw [linkRequest_withSchedule, hq])]
  cases q with
  | sendBulk image len => exact absurd rfl (hbulk image len)
  | writeWord | readWord => simp only [seqTransact, requestAbort, abortCode, hp]; rfl

/-- A transaction whose answer ends no session: the LINK event, then the step's own effect. -/
theorem step_continue {s : State} {q : LinkRequest} {r : LinkAnswer} {turns : List Turn}
    (hs : s.schedule = .seq (some r) :: turns) (hq : linkRequest s = some q)
    (hgo : requestAbort s.params.xportErrPolicy q r = none) :
    step s = .next (seqLinkStep r (emit (q.event r) { s with schedule := turns })) := by
  rw [step_seq hs, seqTurn_answered (by rw [linkRequest_withSchedule, hq])]
  simp only [seqTransact, hgo]

/-! The step's own effect in each state (R90 to R92, R95, R96). -/

theorem seqLinkStep_bulk {s : State} (h : s.seqState = .sendingImage .bulk) (r : LinkAnswer) :
    seqLinkStep r s = seqBulk s := by
  simp only [seqLinkStep, h]

theorem seqLinkStep_probeW {s : State} (h : s.seqState = .awaitingAck .probeW) (r : LinkAnswer) :
    seqLinkStep r s = seqProbeWrite s := by
  simp only [seqLinkStep, h]

theorem seqLinkStep_probeR {s : State} (h : s.seqState = .awaitingAck .probeR) (r : LinkAnswer) :
    seqLinkStep r s = seqProbeRead r s := by
  simp only [seqLinkStep, h]

theorem seqLinkStep_announce {s : State} (h : s.seqState = .announcingSize) (r : LinkAnswer) :
    seqLinkStep r s = seqAnnounce s := by
  simp only [seqLinkStep, h]

theorem seqLinkStep_stream {s : State} (h : s.seqState = .streaming) (hleft : wordsLeft s = true)
    (r : LinkAnswer) : seqLinkStep r s = seqStreamed (payloadWord s) s := by
  simp only [seqLinkStep, h, hleft, if_true]

/-- Only a read-back looks at the answer. -/
theorem seqLinkStep_congr {s : State} (h : s.seqState ≠ .awaitingAck .probeR) (r r' : LinkAnswer) :
    seqLinkStep r s = seqLinkStep r' s := by
  unfold seqLinkStep
  split
  case h_5 hprobeR => exact absurd hprobeR h
  all_goals rfl

/-- What a read-back does depends on the data of the answer, and its event alone on the rest. -/
theorem seqProbeRead_emit_congr {r r' : LinkAnswer} (h : r.data = r'.data) (e e' : Event) (s : State) :
    seqProbeRead r (emit e s) = { seqProbeRead r' (emit e' s) with trace := s.trace ++ [e] } := by
  unfold seqProbeRead
  rw [h]
  split_ifs <;> rfl

/-! What the steps compute. -/

theorem wordsLeft_iff (s : State) : wordsLeft s = true ↔ 4 * s.seqWcnt.toNat < s.seqLen.toNat := by
  simp only [wordsLeft, decide_eq_true_eq]

theorem wordsLeft_eq_false_iff (s : State) : wordsLeft s = false ↔ s.seqLen.toNat ≤ 4 * s.seqWcnt.toNat := by
  simp only [wordsLeft, decide_eq_false_iff_not, not_lt]

/-- A wait parameter that fits SEQ_WAIT is loaded as it is (10_state.md R30). -/
theorem ackWaitLoad_toNat {p : Params} (h : p.ackWaitTicks < 2 ^ 32) :
    (ackWaitLoad p).toNat = p.ackWaitTicks := by
  rw [ackWaitLoad, if_pos h, BitVec.toNat_ofNat, Nat.mod_eq_of_lt h]

/-- The word of the four bytes at the addresses that R96 computes mod 2^32. -/
theorem payloadWord_eq_of_bytes {s : State} {b : Nat → Byte}
    (hb : ∀ k, b k = Memory.readByte s.payload ((s.seqBase.toNat + 4 * s.seqWcnt.toNat + k) % 2 ^ 32)) :
    payloadWord s = (b 0).setWidth 32 ||| ((b 1).setWidth 32 <<< 8) ||| ((b 2).setWidth 32 <<< 16) |||
      ((b 3).setWidth 32 <<< 24) := by
  have hbyte (k : Nat) : memRead8 s (payloadAddr s k) = b k := by
    rw [hb, memRead8, payloadAddr, BitVec.toNat_add, BitVec.toNat_ofNat, Nat.add_mod_mod, Nat.add_assoc]
  simp only [payloadWord, le32, hbyte]

theorem toNat_pos_iff {w : Nat} {x : BitVec w} : 0 < x.toNat ↔ x ≠ 0#w := by
  rw [Nat.pos_iff_ne_zero, ne_eq, ne_eq, BitVec.toNat_eq, BitVec.toNat_ofNat, Nat.zero_mod]

theorem verifyMatch_iff (s : State) : verifyMatch s = true ↔
    s.seqWcnt ≠ 0#32 ∧ s.seqLastw = 0x02000000#32 + s.seqLen - 4#32 := by
  simp only [verifyMatch, Bool.and_eq_true, decide_eq_true_eq, toNat_pos_iff]
  rfl

/-! The stream, one step at a time. -/

/-- A payload word whose answer ends no session: its events, and it is recorded and counted (R96). -/
theorem step_streamWord {s : State} {r : LinkAnswer} {turns : List Turn} (hs : s.schedule = .seq (some r) :: turns)
    (hst : s.seqState = .streaming) (hleft : wordsLeft s = true)
    (hgo : ∀ code d, r = .err code d → s.params.xportErrPolicy = .ignore) :
    step s = .next { s with
      schedule := turns, seqLastw := payloadWord s, seqWcnt := s.seqWcnt + 1#32
      trace := s.trace ++ [.linkWriteWord (payloadWord s),
        .progress (4 * (s.seqWcnt.toNat + 1)) s.seqLen (payloadWord s)] } := by
  rw [step_continue hs (linkRequest_stream hst hleft) (requestAbort_eq_none hgo _),
    seqLinkStep_stream (by exact hst) (by exact hleft), List.append_cons]
  rfl

/-- The end of the stream (R98). -/
theorem step_verify {s : State} {ans : Option LinkAnswer} {turns : List Turn} (hs : s.schedule = .seq ans :: turns)
    (hst : s.seqState = .streaming) (hleft : wordsLeft s = false) :
    step s = .next { s with
      schedule := turns, seqVmatch := verifyMatch s, seqState := .done, seqCode := .ok
      trace := s.trace ++ if verifyMatch s then [.verifyOk s.seqLastw] else [] } := by
  rw [step_seq hs, seqTurn_streamEnd (s := { s with schedule := turns }) hst hleft]
  unfold seqVerify
  rw [show verifyMatch { s with schedule := turns } = verifyMatch s from rfl]
  cases verifyMatch s with
  | true => rfl
  | false => simp

end Sys2Proof.Machine
end

section
/-! PROOFS. SEQ.START and each step of SEQ, with its whole next state (42_sequencer.md R88 to R100). -/

namespace Sys2Proof

open Machine

/-- Settles O31: both cases of BUSY, and the one word of the opcode's row. -/
theorem seqStartCompletes : Obligations.SeqStartCompletes := by
  refine ⟨fun s hst => ?accepted, fun s hst => ?busy, decodeCommand_encodeCommand .seqStart,
    fun _ hop hne => decodeCommand_of_ne_word (i := .seqStart) rfl hop hne⟩
  case accepted => exact if_neg (Bool.eq_false_iff.mp (s.seqState.busy_eq_false_iff.mpr hst))
  case busy => exact if_pos (Bool.of_not_eq_false fun h => hst (s.seqState.busy_eq_false_iff.mp h))

/-- Settles O32, by the link mode sampled. -/
theorem seqCheckStep : Obligations.SeqCheckStep := by
  intro s ans turns hs hst
  rw [step_seq hs, seqTurn_check (s := { s with schedule := turns }) hst]
  unfold seqCheck
  cases hm : s.linkMode with
  | primitive => exact ⟨fun _ => rfl, fun h => absurd rfl h⟩
  | upgraded => exact ⟨nofun, fun _ => rfl⟩

/-- Settles O33: whatever the answer and the policy, SEND_BULK ends no session. -/
theorem seqBulkStep : Obligations.SeqBulkStep := by
  intro s r turns hs hst
  have hq := linkRequest_bulk hst
  refine ⟨hq, ?_⟩
  rw [step_continue hs hq rfl, seqLinkStep_bulk (by exact hst)]
  rfl

/-- Settles O34, by whether the answer aborts. -/
theorem probeWriteStep : Obligations.ProbeWriteStep := by
  intro s r turns hs hst
  have hq := linkRequest_probeW hst
  refine ⟨hq, fun hgo => ?_, fun code d hr hp => ?_⟩
  · rw [step_continue hs hq (requestAbort_eq_none hgo _), seqLinkStep_probeW (by exact hst)]
    rfl
  · exact step_abort (hr ▸ hs) hq nofun hp

/-- Settles O35: the step compares the answer's data, OK or an ERR that is ignored, with the probe. -/
theorem probeReadStep : Obligations.ProbeReadStep := by
  intro s r v turns hs hst hr
  have hq := linkRequest_probeR hst
  have hdata : r.data = v := by
    obtain rfl | ⟨code, rfl, _⟩ := hr <;> rfl
  have hgo : ∀ code d, r = .err code d → s.params.xportErrPolicy = .ignore := by
    rintro code d rfl
    obtain h | ⟨_, _, hp⟩ := hr
    · cases h
    · exact hp
  have hstep := step_continue hs hq (requestAbort_eq_none hgo _)
  rw [seqLinkStep_probeR (by exact hst), seqProbeRead, hdata] at hstep
  refine ⟨hq, fun hv => ?echo, fun hv => ⟨ackWaitLoad s.params, ackWaitLoad_toNat, ?other⟩⟩
  case echo => rw [hstep, if_pos (by exact hv)]; rfl
  case other => rw [hstep, if_neg (by exact hv)]; rfl

/-- Settles O36, by the tick's one condition. -/
theorem tickCountsTheWait : Obligations.TickCountsTheWait := by
  intro s turns hs
  rw [step_tick hs]
  refine ⟨fun hst hw => congrArg _ (if_pos ?_), fun h => congrArg _ (if_neg ?_)⟩
  · exact ⟨hst, toNat_pos_iff.mpr hw⟩
  · exact fun ⟨hst, hw⟩ => h ⟨hst, toNat_pos_iff.mp hw⟩

/-- Settles O37, by SEQ_WAIT, then by SEQ_ATT. -/
theorem waitExpiryStep : Obligations.WaitExpiryStep := by
  intro s ans turns hs hst
  rw [step_seq hs, seqTurn_wait (s := { s with schedule := turns }) hst]
  unfold seqWaitExpiry
  refine ⟨fun hw hatt => ?again, fun hw hatt => ?timeout, fun hw => ?running⟩
  case again => rw [if_pos (by exact hw), if_pos (by exact hatt)]
  case timeout => rw [if_pos (by exact hw), if_neg (by exact Nat.not_lt.mpr hatt)]
  case running => rw [if_neg (by exact hw)]

/-- Settles O38, by whether the answer aborts. -/
theorem announceSizeStep : Obligations.AnnounceSizeStep := by
  rintro s r w turns hs hst rfl
  have hq := linkRequest_announce hst
  refine ⟨?floor, hq, fun hgo => ?_, fun code d hr hp => ?_⟩
  case floor => rw [BitVec.toNat_ushiftRight, Nat.shiftRight_eq_div_pow]
  · rw [step_continue hs hq (requestAbort_eq_none hgo _), seqLinkStep_announce (by exact hst)]
    rfl
  · exact step_abort (hr ▸ hs) hq nofun hp

/-- Settles O39: the four bytes make the model's payload word (`payloadWord_eq_of_bytes`), then by whether the answer
aborts. -/
theorem streamWordStep : Obligations.StreamWordStep := by
  rintro s r w b turns hs hst hlen hb rfl
  rw [← payloadWord_eq_of_bytes hb]
  have hleft := (wordsLeft_iff s).mpr hlen
  have hq := linkRequest_stream hst hleft
  refine ⟨hq, fun hgo => ?_, fun code d hr hp => ?_⟩
  · exact step_streamWord hs hst hleft hgo
  · exact step_abort (hr ▸ hs) hq nofun hp

/-- Settles O41, by whether the last word matches. -/
theorem verifyStep : Obligations.VerifyStep := by
  intro s ans turns hs hst hlen
  have hleft := (wordsLeft_eq_false_iff s).mpr hlen
  rw [step_verify hs hst hleft]
  refine ⟨fun hw hlast => ?_, fun h => ?_⟩
  · rw [(verifyMatch_iff s).mpr ⟨hw, hlast⟩, if_pos rfl]
  · have hno : verifyMatch s = false := Bool.eq_false_iff.mpr fun hm => h ((verifyMatch_iff s).mp hm)
    simp [hno]

/-- Settles O43: SEQ has no step where no session runs, and the tick's condition is not met. -/
theorem terminalStatesHaveNoStep : Obligations.TerminalStatesHaveNoStep := by
  rintro s t turns hs (rfl | ⟨ans, rfl⟩) hst
  · refine (tickCountsTheWait s turns hs).2 fun ⟨hwait, _⟩ => ?_
    rw [hwait] at hst
    simp at hst
  · rw [step_seq hs, seqTurn_of_not_busy (by exact s.seqState.busy_eq_false_iff.mpr (by tauto))]

/-- Settles O42: ABORT ends the session at the LINK event (`step_abort`); under IGNORE the step's own effect follows,
which reads no more of an answer than the data of a read-back. -/
theorem transportErrorPolicy : Obligations.TransportErrorPolicy := by
  refine ⟨rfl, fun s code d turns hs => ⟨fun w hq hp => ?writeAbort, fun hq hp => ?readAbort,
    fun w v hq hp => ?writeIgnore, fun hq hp => ?readIgnore, fun image len hq => ?bulk⟩⟩
  case writeAbort => exact step_abort hs hq nofun hp
  case readAbort => exact step_abort hs hq nofun hp
  case writeIgnore =>
    have hst : s.seqState ≠ .awaitingAck .probeR := fun hst => by
      rw [linkRequest_probeR hst] at hq
      cases hq
    rw [step_continue hs hq (requestAbort_eq_none (fun _ _ _ => hp) _),
      step_continue (s := { s with schedule := _ }) rfl hq (requestAbort_ok ..),
      seqLinkStep_congr (by exact hst)]
    rfl
  case readIgnore =>
    have hst := linkRequest_eq_readWord hq
    refine ⟨_, step_continue (s := { s with schedule := _ }) rfl hq (requestAbort_ok ..), ?_⟩
    rw [step_continue hs hq (requestAbort_eq_none (fun _ _ _ => hp) _),
      seqLinkStep_probeR (by exact hst), seqLinkStep_probeR (by exact hst)]
    exact congrArg _ (seqProbeRead_emit_congr rfl ..)
  case bulk =>
    obtain ⟨hst, rfl⟩ := linkRequest_eq_sendBulk hq
    exact (seqBulkStep s _ turns hs hst).2

end Sys2Proof
end

section
/-! PROOFS. The rows of the table of 42_sequencer.md R86: an enabled step of SEQ is one of them, and a turn of the
host, of the timer or of another agent is none. -/

namespace Sys2Proof.Machine

open Sys2Proof.Safety

/-- SEQ's own rows of the table of R86, from `s` to `t`: the edge, and what it does to the registers that say how far
the session has come. -/
inductive SeqRow (s t : State) : Prop where
  /-- R89, another mode than PRIMITIVE. -/
  | precondition (src : s.seqState = .sendingImage .check) (dst : t.seqState = .failed)
  /-- R89. -/
  | checked (src : s.seqState = .sendingImage .check) (dst : t.seqState = .sendingImage .bulk)
      (att : t.seqAtt = s.seqAtt) (wcnt : t.seqWcnt = s.seqWcnt)
  /-- R90. -/
  | imageSent (src : s.seqState = .sendingImage .bulk) (dst : t.seqState = .awaitingAck .probeW)
      (att : t.seqAtt = s.seqAtt) (wcnt : t.seqWcnt = s.seqWcnt)
  /-- R91. -/
  | probeWritten (src : s.seqState = .awaitingAck .probeW) (dst : t.seqState = .awaitingAck .probeR)
      (att : t.seqAtt = s.seqAtt) (wcnt : t.seqWcnt = s.seqWcnt)
  /-- R92, the probe read back. -/
  | echoed (src : s.seqState = .awaitingAck .probeR) (dst : t.seqState = .announcingSize)
      (wcnt : t.seqWcnt = s.seqWcnt)
  /-- R92, another word read back. -/
  | missed (src : s.seqState = .awaitingAck .probeR) (dst : t.seqState = .awaitingAck .wait)
      (att : t.seqAtt = s.seqAtt + 1#5) (wait : t.seqWait = ackWaitLoad s.params) (wcnt : t.seqWcnt = s.seqWcnt)
  /-- R94, attempts left. -/
  | probesAgain (src : s.seqState = .awaitingAck .wait) (dst : t.seqState = .awaitingAck .probeW)
      (more : s.seqAtt.toNat < 16) (att : t.seqAtt = s.seqAtt) (wcnt : t.seqWcnt = s.seqWcnt)
  /-- R94, no attempt left. -/
  | timedOut (src : s.seqState = .awaitingAck .wait) (dst : t.seqState = .failed)
  /-- R95. -/
  | announced (src : s.seqState = .announcingSize) (dst : t.seqState = .streaming) (wcnt : t.seqWcnt = s.seqWcnt)
  /-- R96. -/
  | wordSent (src : s.seqState = .streaming) (dst : t.seqState = .streaming) (left : wordsLeft s = true)
      (wcnt : t.seqWcnt = s.seqWcnt + 1#32)
  /-- R98. -/
  | verified (src : s.seqState = .streaming) (dst : t.seqState = .done)
  /-- R99. -/
  | aborted (src : s.seqState = .awaitingAck .probeW ∨ s.seqState = .awaitingAck .probeR ∨
      s.seqState = .announcingSize ∨ s.seqState = .streaming) (dst : t.seqState = .failed)

/-! The rows without a transaction. -/

theorem seqCheck_row {s : State} (h : s.seqState = .sendingImage .check) : SeqRow s (seqCheck s) := by
  unfold seqCheck
  split
  · exact .precondition h rfl
  · exact .checked h rfl rfl rfl

theorem seqWaitExpiry_row {s : State} (h : s.seqState = .awaitingAck .wait) (hw : s.seqWait = 0#32) :
    SeqRow s (seqWaitExpiry s) := by
  unfold seqWaitExpiry
  rw [if_pos hw]
  split
  · next hatt => exact .probesAgain h rfl hatt rfl rfl
  · exact .timedOut h rfl

theorem seqVerify_row {s : State} (h : s.seqState = .streaming) : SeqRow s (seqVerify s) := by
  unfold seqVerify
  split <;> exact .verified h rfl

/-! The rows with a transaction. -/

/-- Where SEQ writes or reads a word, a transport error can end the session. -/
theorem aborted_src {s : State} {q : LinkRequest} (hq : linkRequest s = some q)
    (hbulk : ∀ image len, q ≠ .sendBulk image len) :
    s.seqState = .awaitingAck .probeW ∨ s.seqState = .awaitingAck .probeR ∨
      s.seqState = .announcingSize ∨ s.seqState = .streaming := by
  unfold linkRequest at hq
  split at hq
  case h_3 => cases hq; exact absurd rfl (hbulk _ _)
  case h_4 h => exact .inl h
  case h_5 h => exact .inr (.inl h)
  case h_7 h => exact .inr (.inr (.inl h))
  case h_8 h => exact .inr (.inr (.inr h))
  all_goals cases hq

theorem seqProbeRead_row {s : State} (h : s.seqState = .awaitingAck .probeR) (r : LinkAnswer) (e : Event) :
    SeqRow s (seqProbeRead r (emit e s)) := by
  unfold seqProbeRead
  split
  · exact .echoed h rfl rfl
  · exact .missed h rfl rfl rfl rfl

/-- The step's own effect after its event, where it needs a transaction. -/
theorem seqLinkStep_row {s : State} {q : LinkRequest} (hq : linkRequest s = some q) (r : LinkAnswer) (e : Event) :
    SeqRow s (seqLinkStep r (emit e s)) := by
  unfold linkRequest at hq
  split at hq
  case h_3 h => rw [seqLinkStep_bulk (by exact h)]; exact .imageSent h rfl rfl rfl
  case h_4 h => rw [seqLinkStep_probeW (by exact h)]; exact .probeWritten h rfl rfl rfl
  case h_5 h => rw [seqLinkStep_probeR (by exact h)]; exact seqProbeRead_row h r e
  case h_7 h => rw [seqLinkStep_announce (by exact h)]; exact .announced h rfl rfl
  case h_8 h =>
    split at hq
    · next hleft => rw [seqLinkStep_stream (by exact h) (by exact hleft)]; exact .wordSent h h hleft rfl
    · cases hq
  all_goals cases hq

theorem seqTransact_row {s : State} {q : LinkRequest} (hq : linkRequest s = some q) (r : LinkAnswer) :
    SeqRow s (seqTransact q r s) := by
  obtain ⟨code, d, _, _, hbulk, h⟩ | ⟨_, h⟩ := seqTransact_cases q r s <;> rw [h]
  · exact .aborted (aborted_src hq hbulk) rfl
  · exact seqLinkStep_row hq r _

/-! A turn of SEQ is a row exactly when a step is enabled. -/

theorem effective_of_linkRequest {s : State} {q : LinkRequest} (hq : linkRequest s = some q)
    (ans : Option LinkAnswer) : effective (.seq ans) s = ans.isSome := by
  simp only [effective, hq]

/-- Where SEQ asks nothing of the link, it checks, waits, is at the end of its stream, or runs no session. -/
theorem linkRequest_none_cases {s : State} (hq : linkRequest s = none) :
    s.seqState = .sendingImage .check ∨ s.seqState = .awaitingAck .wait ∨
      (s.seqState = .streaming ∧ wordsLeft s = false) ∨ s.seqState.busy = false := by
  unfold linkRequest at hq
  split at hq
  case h_2 h => exact .inl h
  case h_6 h => exact .inr (.inl h)
  case h_8 h =>
    split at hq
    · cases hq
    · next hleft => exact .inr (.inr (.inl ⟨h, Bool.eq_false_iff.mpr hleft⟩))
  case h_1 h | h_9 h | h_10 h => rw [h]; exact .inr (.inr (.inr rfl))
  all_goals cases hq

theorem seqTurn_local_row_cases {s : State} (hq : linkRequest s = none) (ans : Option LinkAnswer) :
    (effective (.seq ans) s = true ∧ SeqRow s (seqTurn ans s)) ∨
    (effective (.seq ans) s = false ∧ seqTurn ans s = s) := by
  simp only [effective, hq]
  obtain h | h | ⟨h, hleft⟩ | h := linkRequest_none_cases hq
  · rw [seqTurn_check h, h]
    exact .inl ⟨rfl, seqCheck_row h⟩
  · rw [seqTurn_wait h, h]
    by_cases hw : s.seqWait = 0#32
    · exact .inl ⟨decide_eq_true hw, seqWaitExpiry_row h hw⟩
    · exact .inr ⟨decide_eq_false hw, if_neg hw⟩
  · rw [seqTurn_streamEnd h hleft, h]
    exact .inl ⟨rfl, seqVerify_row h⟩
  · rw [seqTurn_of_not_busy h]
    obtain hst | hst | hst := s.seqState.busy_eq_false_iff.mp h <;> rw [hst] <;> exact .inr ⟨rfl, rfl⟩

theorem seqTurn_row_cases (ans : Option LinkAnswer) (s : State) :
    (effective (.seq ans) s = true ∧ SeqRow s (seqTurn ans s)) ∨
    (effective (.seq ans) s = false ∧ seqTurn ans s = s) := by
  obtain ⟨hq, h⟩ | ⟨q, hq, rfl, h⟩ | ⟨q, r, hq, rfl, h⟩ := seqTurn_cases ans s <;> rw [h]
  · exact h ▸ seqTurn_local_row_cases hq ans
  · exact .inr ⟨effective_of_linkRequest hq _, rfl⟩
  · exact .inl ⟨effective_of_linkRequest hq _, seqTransact_row hq r⟩

/-- Every row is an edge of R86, or sends one more word of the stream. -/
theorem SeqRow.edge {s t : State} (h : SeqRow s t) :
    t.seqState = s.seqState ∨ seqEdge s.seqState t.seqState = true := by
  cases h with
  | wordSent src dst => exact .inl (dst.trans src.symm)
  | aborted src dst =>
    obtain src | src | src | src := src <;> rw [src, dst] <;> exact .inr rfl
  | precondition src dst | checked src dst | imageSent src dst | probeWritten src dst | echoed src dst
  | missed src dst | probesAgain src dst | timedOut src dst | announced src dst | verified src dst =>
    rw [src, dst]; exact .inr rfl

/-! The other agents (60_exceptions.md R113). -/

/-- A command leaves SEQ alone, but for SEQ.START when no session runs. -/
theorem exec_seq_cases {i : Instr} {s t : State} (h : exec i s = .next t) :
    SameSeq s t ∨ (i = .seqStart ∧ s.seqState.busy = false ∧ t.seqState = .sendingImage .check) := by
  cases i with
  | crcInit | ciphInit => cases h; simp [SameSeq]
  | crcAcc | crcFin | ciphXform =>
    simp only [exec, execCrcAcc, execCrcFin, execCiphXform] at h
    split at h <;> cases h <;> simp [SameSeq]
  | seqStart =>
    simp only [exec, execSeqStart] at h
    split at h <;> cases h
    · simp [SameSeq]
    · next hbusy => exact .inr ⟨rfl, by simpa using hbusy, rfl⟩

/-- A turn of the host leaves SEQ alone, but for a write of SEQ.START's word to CMD when no session runs. -/
theorem hostTurn_seq_cases {s t : State} (h : hostTurn s = .next t) :
    SameSeq s t ∨ (s.seqState.busy = false ∧ t.seqState = .sendingImage .check ∧
      ∃ lines, s.hostProgram = .bus (.write .word 0x00 0x00000006#32) :: lines) := by
  obtain hread | ⟨_, _, _, rfl⟩ | ⟨_, _, _, rfl⟩ | ⟨w, lines, hp, hw⟩ := hostTurn_next_cases h
  · rw [hread]; simp [SameSeq]
  · simp [SameSeq]
  · simp [SameSeq]
  · obtain ⟨i, rfl, he⟩ | ⟨e, _, he⟩ := writeCommand_cases w { s with hostProgram := lines } <;> rw [he] at hw
    · obtain hsame | ⟨rfl, hbusy, hst⟩ := exec_seq_cases hw
      · exact .inl hsame
      · exact .inr ⟨hbusy, hst, lines, hp⟩
    · cases hw; simp [SameSeq]

end Sys2Proof.Machine

namespace Sys2Proof

open Machine

/-- Settles O49: SEQ's turn is a row of the table, the host's may start a session, and of the others only a reset
moves SEQ. -/
theorem onlyTableEdges : Obligations.OnlyTableEdges := by
  intro s s' t turns hs h
  rw [step_cons hs] at h
  cases t with
  | host =>
    obtain ⟨hst, _⟩ | ⟨hbusy, hst, _⟩ := hostTurn_seq_cases h
    · exact .inl hst
    · exact .inr (.inr (.inl ⟨rfl, hbusy, hst⟩))
  | seq ans =>
    cases h
    obtain ⟨_, hrow⟩ | ⟨_, hsame⟩ := seqTurn_row_cases ans { s with schedule := turns }
    · exact hrow.edge.imp id fun hedge => .inl ⟨⟨ans, rfl⟩, hedge⟩
    · rw [hsame]; exact .inl rfl
  | tick =>
    cases h
    obtain ⟨_, _, ht⟩ | ht := tickTurn_cases { s with schedule := turns } <;> rw [ht] <;> exact .inl rfl
  | linkMode | payloadWrite => cases h; exact .inl rfl
  | reset => cases h; exact .inr (.inr (.inr ⟨rfl, rfl⟩))

end Sys2Proof
end

section
/-! PROOFS. How many steps a session can still take (42_sequencer.md R103): every step of SEQ and every tick that
counts takes at least one from a bound on them that no other agent raises. -/

namespace Sys2Proof.Machine

open Sys2Proof.Safety

/-- A bound on the SEQ and tick steps a session still takes. An attempt takes a write, a read, the ticks of its wait
and the expiry; after the attempts come the announcement, the words and the verification. -/
def stepsLeft (s : State) : Nat :=
  let attempts := (16 - s.seqAtt.toNat) * (s.params.ackWaitTicks + 3)
  let words := wordsTotal s - s.seqWcnt.toNat
  match s.seqState with
  | .idle => 0
  | .sendingImage .check => 2 + attempts + 1 + words + 1
  | .sendingImage .bulk => 1 + attempts + 1 + words + 1
  | .awaitingAck .probeW => attempts + 1 + words + 1
  | .awaitingAck .probeR => attempts - 1 + 1 + words + 1
  | .awaitingAck .wait => s.seqWait.toNat + 1 + attempts + 1 + words + 1
  | .announcingSize => 1 + words + 1
  | .streaming => words + 1
  | .done => 0
  | .failed => 0

/-- Whether SEQ is on its way to an attempt that it has not yet counted. -/
def beforeRead : SeqState → Bool
  | .sendingImage _ => true
  | .awaitingAck .probeW => true
  | .awaitingAck .probeR => true
  | _ => false

/-- SEQ sets out on a further attempt only after fewer than 16 (R94). -/
def AttemptsOpen (s : State) : Prop :=
  beforeRead s.seqState = true → s.seqAtt.toNat < 16

/-- The value that SEQ_WAIT is loaded with is at most the parameter, also where it is left free (log 8). -/
theorem ackWaitLoad_le (p : Params) : (ackWaitLoad p).toNat ≤ p.ackWaitTicks := by
  by_cases h : p.ackWaitTicks < 2 ^ 32
  · exact (ackWaitLoad_toNat h).le
  · exact (ackWaitLoad p).isLt.le.trans (Nat.not_lt.mp h)

/-- One attempt more is counted: its steps are gone from the attempts left. -/
theorem attempts_succ {a : BitVec 5} (ha : a.toNat < 16) (c : Nat) :
    (16 - a.toNat) * c = (16 - (a + 1#5).toNat) * c + c := by
  have hsucc : 16 - a.toNat = 16 - (a + 1#5).toNat + 1 := by bv_omega
  rw [hsucc, Nat.succ_mul]

theorem SeqRow.attemptsOpen {s t : State} (h : SeqRow s t) (hopen : AttemptsOpen s) : AttemptsOpen t := by
  cases h with
  | checked src dst att | imageSent src dst att | probeWritten src dst att =>
    exact fun _ => att ▸ hopen (by rw [src]; rfl)
  | probesAgain src dst more att => exact fun _ => att ▸ more
  | precondition _ dst | echoed _ dst | missed _ dst | timedOut _ dst | announced _ dst | wordSent _ dst
  | verified _ dst | aborted _ dst =>
    intro hbefore
    rw [dst] at hbefore
    cases hbefore

/-- Every row takes one step. -/
theorem SeqRow.stepsLeft_lt {s t : State} (h : SeqRow s t) (hparams : t.params = s.params)
    (hlen : t.seqLen = s.seqLen) (hopen : AttemptsOpen s) : stepsLeft t < stepsLeft s := by
  have htotal : wordsTotal t = wordsTotal s := by simp only [wordsTotal, hlen]
  cases h with
  | precondition src dst | timedOut src dst | verified src dst =>
    simp only [stepsLeft, src, dst]
    omega
  | aborted src dst =>
    obtain src | src | src | src := src <;> simp only [stepsLeft, src, dst] <;> omega
  | checked src dst att wcnt | imageSent src dst att wcnt | probesAgain src dst _ att wcnt =>
    simp only [stepsLeft, src, dst, att, wcnt, hparams, htotal]
    omega
  | probeWritten src dst att wcnt =>
    have hattempt := attempts_succ (hopen (by rw [src]; rfl)) (s.params.ackWaitTicks + 3)
    simp only [stepsLeft, src, dst, att, wcnt, hparams, htotal]
    omega
  | echoed src dst wcnt =>
    have hattempt := attempts_succ (hopen (by rw [src]; rfl)) (s.params.ackWaitTicks + 3)
    simp only [stepsLeft, src, dst, wcnt, htotal]
    omega
  | missed src dst att wait wcnt =>
    have hattempt := attempts_succ (hopen (by rw [src]; rfl)) (s.params.ackWaitTicks + 3)
    have hload := ackWaitLoad_le s.params
    simp only [stepsLeft, src, dst, att, wait, wcnt, hparams, htotal]
    omega
  | announced src dst wcnt =>
    simp only [stepsLeft, src, dst, wcnt, htotal]
    omega
  | wordSent src dst left wcnt =>
    have hleft := (wordsLeft_iff s).mp left
    have hsucc : (s.seqWcnt + 1#32).toNat = s.seqWcnt.toNat + 1 := by bv_omega
    have hmore : s.seqWcnt.toNat < wordsTotal s := by unfold wordsTotal; omega
    simp only [stepsLeft, src, dst, wcnt, hsucc, htotal]
    omega

/-! The other turns. -/

/-- What SEQ's registers and the parameters are, the bound is. -/
theorem stepsLeft_congr {s t : State} (h : SameSeq s t) (hparams : t.params = s.params) :
    stepsLeft t = stepsLeft s := by
  obtain ⟨hst, _, _, hlen, _, hatt, hwcnt, _, _, hwait⟩ := h
  simp only [stepsLeft, wordsTotal, hst, hlen, hatt, hwcnt, hwait, hparams]

theorem AttemptsOpen.congr {s t : State} (hopen : AttemptsOpen s) (h : SameSeq s t) : AttemptsOpen t := by
  obtain ⟨hst, _, _, _, _, hatt, _⟩ := h
  simpa only [AttemptsOpen, hst, hatt] using hopen

/-- A tick that counts takes one step. -/
theorem stepsLeft_tick {s : State} (hst : s.seqState = .awaitingAck .wait) (hw : 0 < s.seqWait.toNat) :
    stepsLeft { s with seqWait := s.seqWait - 1#32 } < stepsLeft s := by
  have hpred : (s.seqWait - 1#32).toNat = s.seqWait.toNat - 1 := by bv_omega
  simp only [stepsLeft, wordsTotal, hst, hpred]
  omega

/-- What a turn takes from the bound: one step where it is SEQ's or a tick that counts. -/
theorem runTurn_stepsLeft {turn : Turn} {s t : State} (hbusy : s.seqState.busy = true) (hopen : AttemptsOpen s)
    (h : runTurn turn s = .next t) :
    AttemptsOpen t ∧ (if effective turn s = true then 1 else 0) + stepsLeft t ≤ stepsLeft s := by
  have hkept (hsame : SameSeq s t) (heff : effective turn s = false) :
      AttemptsOpen t ∧ (if effective turn s = true then 1 else 0) + stepsLeft t ≤ stepsLeft s := by
    simp [hopen.congr hsame, heff, stepsLeft_congr hsame (runTurn_params h)]
  cases turn with
  | host =>
    obtain hsame | ⟨hidle, _⟩ := hostTurn_seq_cases h
    · exact hkept hsame rfl
    · rw [hidle] at hbusy; cases hbusy
  | seq ans =>
    cases h
    obtain ⟨heff, hrow⟩ | ⟨heff, hsame⟩ := seqTurn_row_cases ans s
    · have hlen : (seqTurn ans s).seqLen = s.seqLen := by rw [seqTurn_eq_withSeqSteps]; rfl
      have hlt := hrow.stepsLeft_lt (seqTurn_params ans s) hlen hopen
      rw [if_pos heff]
      exact ⟨hrow.attemptsOpen hopen, by omega⟩
    · exact hkept (by rw [hsame]; simp [SameSeq]) heff
  | tick =>
    cases h
    cases heff : effective .tick s with
    | true =>
      obtain ⟨hst, hw⟩ := of_decide_eq_true heff
      have hlt := stepsLeft_tick hst hw
      rw [show tickTurn s = { s with seqWait := s.seqWait - 1#32 } from if_pos ⟨hst, hw⟩, if_pos rfl]
      exact ⟨hopen, by omega⟩
    | false =>
      have hsame : tickTurn s = s := if_neg (of_decide_eq_false heff)
      exact heff ▸ hkept (by rw [hsame]; simp [SameSeq]) heff
  | linkMode | payloadWrite => cases h; exact hkept (by simp [SameSeq]) rfl
  | reset => cases h; exact ⟨nofun, Nat.zero_le _⟩

/-! Whole sessions. -/

theorem sessionSteps_of_not_busy {s : State} (h : s.seqState.busy = false) (k : Nat) : sessionSteps k s = 0 := by
  cases k with
  | zero => rfl
  | succ k => simp [sessionSteps, h]

/-- The steps counted over any number of turns are at most the bound: each of them takes one from it. -/
theorem sessionSteps_le_stepsLeft (k : Nat) {s : State} (hopen : AttemptsOpen s) :
    sessionSteps k s ≤ stepsLeft s := by
  induction k generalizing s with
  | zero => exact Nat.zero_le _
  | succ k ih =>
    cases hbusy : s.seqState.busy with
    | false => rw [sessionSteps_of_not_busy hbusy]; exact Nat.zero_le _
    | true =>
      simp only [sessionSteps, hbusy, if_true]
      cases hs : s.schedule with
      | nil => exact Nat.zero_le _
      | cons turn turns =>
        simp only
        cases hstep : step s with
        | next t =>
          rw [step_cons hs] at hstep
          obtain ⟨htopen, hcost⟩ := runTurn_stepsLeft (s := { s with schedule := turns }) hbusy hopen hstep
          exact (Nat.add_le_add_left (ih htopen) _).trans hcost
        | fault r => cases r
        | refused r =>
          rw [step_cons hs] at hstep
          obtain ⟨rfl, _⟩ := runTurn_refused hstep
          exact Nat.zero_le _

/-- The bound at the start of a session. -/
theorem stepsLeft_start {s : State} (hst : s.seqState = .sendingImage .check) (hatt : s.seqAtt.toNat = 0) :
    stepsLeft s ≤ sessionBound s := by
  simp only [stepsLeft, hst, hatt, sessionBound]
  omega

/-- While a session runs, SEQ's step waits for an answer at most, or a tick counts. -/
theorem effective_of_busy {s : State} (hbusy : s.seqState.busy = true) :
    (∀ r, effective (.seq (some r)) s = true) ∨ effective .tick s = true := by
  cases hq : linkRequest s with
  | some q => exact .inl fun r => effective_of_linkRequest hq _
  | none =>
    simp only [effective, hq]
    obtain h | h | ⟨h, _⟩ | h := linkRequest_none_cases hq
    · rw [h]; exact .inl fun _ => rfl
    · rw [h]
      by_cases hw : s.seqWait = 0#32
      · exact .inl fun _ => decide_eq_true hw
      · exact .inr (decide_eq_true ⟨rfl, toNat_pos_iff.mpr hw⟩)
    · rw [h]; exact .inl fun _ => rfl
    · rw [h] at hbusy; cases hbusy

end Sys2Proof.Machine

namespace Sys2Proof

open Machine

/-- Settles O48: the session starts with the whole bound, each step that counts takes one from it, and no other
agent adds to it. -/
theorem sessionStepBound : Obligations.SessionStepBound := by
  refine ⟨fun s k hinv hst => ?_, fun s hbusy => effective_of_busy hbusy⟩
  have hatt : s.seqAtt.toNat = 0 := by
    have hfits := hinv.seq.att
    rw [hst] at hfits
    exact of_decide_eq_true hfits
  have hopen : AttemptsOpen s := fun _ => by omega
  exact (sessionSteps_le_stepsLeft k hopen).trans (stepsLeft_start hst hatt)

end Sys2Proof
end

section
/-! PROOFS. The handshake attempts of a session (42_sequencer.md R91 to R94, R101), in runs: the ticks of a wait, one
attempt that misses, several, and the one that echoes. -/

namespace Sys2Proof.Safety

open Machine

/-- A run goes on where the run before it ended. -/
theorem runSteps_trans {k m : Nat} {s t : State} {o : Host.Outcome State Fault Refusal}
    (h : runSteps k s = .next t) (h' : runSteps m t = o) : runSteps (k + m) s = o :=
  (runSteps_add k m h).trans h'

theorem runSteps_two {s t : State} {o : Host.Outcome State Fault Refusal} (h : step s = .next t)
    (h' : step t = o) : runSteps 2 s = o := by
  rw [runSteps_succ_of_next h, runSteps_one, h']

/-- A counter that counts one and then `n` more. -/
theorem add_one_add_ofNat {w : Nat} (x : BitVec w) (n : Nat) :
    x + 1#w + BitVec.ofNat w n = x + BitVec.ofNat w (n + 1) := by
  rw [BitVec.ofNat_add, BitVec.add_comm (BitVec.ofNat w n), BitVec.add_assoc]

/-- The ticks of a wait run it out (R93). -/
theorem runSteps_ticks (n : Nat) {s : State} {turns : List Turn} (hst : s.seqState = .awaitingAck .wait)
    (hw : s.seqWait.toNat = n) (hs : s.schedule = List.replicate n .tick ++ turns) :
    runSteps n s = .next { s with schedule := turns, seqWait := 0#32 } := by
  induction n generalizing s with
  | zero =>
    have hzero : s.seqWait = 0#32 := BitVec.eq_of_toNat_eq hw
    rw [← hzero, ← show s.schedule = turns from hs]
    rfl
  | succ n ih =>
    have hne : s.seqWait ≠ 0#32 := toNat_pos_iff.mp (by omega)
    have htick := (tickCountsTheWait s _ hs).1 hst hne
    rw [runSteps_succ_of_next htick, ih (by exact hst) (by bv_omega) rfl]

/-- The write and the read-back of one attempt, its read returning `v` (R91, R92). -/
theorem runSteps_attempt {s : State} {a v : Word} {turns : List Turn} (hst : s.seqState = .awaitingAck .probeW)
    (hs : s.schedule = .seq (some (.ok a)) :: .seq (some (.ok v)) :: turns) :
    (v = probe → runSteps 2 s = .next { s with
      schedule := turns, seqAtt := s.seqAtt + 1#5, seqState := .announcingSize
      trace := s.trace ++ attemptEvents v }) ∧
    (v ≠ probe → ∃ n : Word, (s.params.ackWaitTicks < 2 ^ 32 → n.toNat = s.params.ackWaitTicks) ∧
      runSteps 2 s = .next { s with
        schedule := turns, seqAtt := s.seqAtt + 1#5, seqState := .awaitingAck .wait, seqWait := n
        trace := s.trace ++ attemptEvents v }) := by
  have hwrite := (probeWriteStep s (.ok a) _ hs hst).2.1 fun _ _ h => by cases h
  have hread := (probeReadStep { s with
    schedule := .seq (some (.ok v)) :: turns, seqState := .awaitingAck .probeR
    trace := s.trace ++ [.linkWriteWord 0xFA57B007#32] } (.ok v) v turns rfl rfl (.inl rfl)).2
  refine ⟨fun hv => ?_, fun hv => ?_⟩
  · rw [runSteps_two hwrite (hread.1 hv), List.append_assoc]
    rfl
  · obtain ⟨n, hn, hstep⟩ := hread.2 hv
    refine ⟨n, hn, ?_⟩
    rw [runSteps_two hwrite hstep, List.append_assoc]
    rfl

/-- An attempt that misses and its wait lead to the wait's expiry (R91 to R94). -/
theorem runSteps_miss {s : State} {p : Word × Word} {turns : List Turn} (hst : s.seqState = .awaitingAck .probeW)
    (hticks : s.params.ackWaitTicks < 2 ^ 32) (hp : p.2 ≠ probe)
    (hs : s.schedule = missTurns s.params.ackWaitTicks p ++ turns) :
    runSteps (missTurns s.params.ackWaitTicks p).length s = step { s with
      schedule := .seq none :: turns, seqAtt := s.seqAtt + 1#5, seqState := .awaitingAck .wait, seqWait := 0#32
      trace := s.trace ++ attemptEvents p.2 } := by
  have hlen : (missTurns s.params.ackWaitTicks p).length = 2 + s.params.ackWaitTicks + 1 := by
    simp only [missTurns, List.length_append, List.length_cons, List.length_nil, List.length_replicate]
  have hsched : s.schedule = .seq (some (.ok p.1)) :: .seq (some (.ok p.2)) ::
      (List.replicate s.params.ackWaitTicks .tick ++ .seq none :: turns) := by
    simp [hs, missTurns]
  obtain ⟨n, hn, hattempt⟩ := (runSteps_attempt hst hsched).2 hp
  rw [hlen, runSteps_trans (runSteps_trans hattempt (runSteps_ticks _ rfl (hn hticks) rfl)) (runSteps_one _)]

/-- Attempts that miss, while fewer than 16 are counted, lead back to PROBE_W. Before the first the wait register
may hold anything. -/
theorem runSteps_misses (reads : List (Word × Word)) {s : State} {turns : List Turn}
    (hst : s.seqState = .awaitingAck .probeW) (hticks : s.params.ackWaitTicks < 2 ^ 32)
    (hatt : s.seqAtt.toNat + reads.length < 16) (hreads : ∀ p ∈ reads, p.2 ≠ probe)
    (hs : s.schedule = reads.flatMap (missTurns s.params.ackWaitTicks) ++ turns) :
    ∃ n : Word, (s.seqWait = 0#32 → n = 0#32) ∧
      runSteps (reads.flatMap (missTurns s.params.ackWaitTicks)).length s = .next { s with
        schedule := turns, seqAtt := s.seqAtt + BitVec.ofNat 5 reads.length, seqWait := n
        trace := s.trace ++ reads.flatMap (fun p => attemptEvents p.2) } := by
  induction reads generalizing s with
  | nil =>
    refine ⟨s.seqWait, id, ?_⟩
    rw [show turns = s.schedule from hs.symm]
    simp [runSteps]
  | cons p rest ih =>
    rw [List.length_cons] at hatt
    rw [List.flatMap_cons, List.append_assoc] at hs
    obtain ⟨hp, hrest⟩ := List.forall_mem_cons.mp hreads
    have hsucc : (s.seqAtt + 1#5).toNat = s.seqAtt.toNat + 1 := by bv_omega
    have hmiss := runSteps_miss hst hticks hp hs
    rw [(waitExpiryStep _ none _ rfl rfl).1 rfl (by simp only [hsucc]; omega)] at hmiss
    obtain ⟨n, hn, hmisses⟩ := ih (s := { s with
      schedule := rest.flatMap (missTurns s.params.ackWaitTicks) ++ turns, seqAtt := s.seqAtt + 1#5
      seqState := .awaitingAck .probeW, seqWait := 0#32, trace := s.trace ++ attemptEvents p.2 })
      rfl hticks (by simp only [hsucc]; omega) hrest rfl
    refine ⟨n, fun _ => hn rfl, ?_⟩
    rw [List.flatMap_cons, List.length_append, runSteps_trans hmiss hmisses]
    simp only [List.flatMap_cons, List.append_assoc, List.length_cons, add_one_add_ofNat, hst]

end Sys2Proof.Safety

namespace Sys2Proof

open Machine Safety

/-- Settles O45: fifteen attempts that miss lead back to PROBE_W, and the sixteenth times out. -/
theorem retriesEndAfterSixteen : Obligations.RetriesEndAfterSixteen := by
  intro s reads turns hst hatt hticks hlen hreads hs
  obtain ⟨init, last, rfl⟩ : ∃ init last, reads = init ++ [last] :=
    (List.eq_nil_or_concat' reads).resolve_left (by rintro rfl; cases hlen)
  have hinit : init.length = 15 := by simpa using hlen
  obtain ⟨hreads, hlast⟩ := List.forall_mem_append.mp hreads
  rw [List.flatMap_append, List.flatMap_singleton, List.append_assoc] at hs
  obtain ⟨n, _, hmisses⟩ := runSteps_misses init hst hticks (by simp [hatt, hinit]) hreads hs
  have hmiss := runSteps_miss (s := { s with
    schedule := missTurns s.params.ackWaitTicks last ++ turns, seqAtt := s.seqAtt + BitVec.ofNat 5 init.length
    seqWait := n, trace := s.trace ++ init.flatMap (fun p => attemptEvents p.2) })
    hst hticks (hlast last (List.mem_singleton_self last)) rfl
  rw [(waitExpiryStep _ none _ rfl rfl).2.1 rfl (by simp [hatt, hinit])] at hmiss
  rw [List.flatMap_append, List.flatMap_singleton, List.length_append, runSteps_trans hmisses hmiss]
  simp [hatt, hinit]

/-- Settles O46: the attempts that miss lead back to PROBE_W, and the next one echoes. -/
theorem echoStopsProbing : Obligations.EchoStopsProbing := by
  intro s reads a turns hst hatt hwait hticks hlen hreads hs
  rw [List.append_assoc] at hs
  obtain ⟨n, hn, hmisses⟩ := runSteps_misses reads hst hticks (by simpa [hatt] using hlen) hreads hs
  rw [runSteps_trans hmisses ((runSteps_attempt (by exact hst) rfl).1 rfl)]
  simp only [hn hwait, hatt, hwait, BitVec.zero_add, BitVec.ofNat_add]
  rfl

end Sys2Proof
end

section
/-! PROOFS. The stream of a session, in runs (42_sequencer.md R96 to R98). -/

namespace Sys2Proof.Safety

open Machine

/-- Payload words that are all still to be sent, each answered OK, go out in order, each with its PROGRESS (R96). -/
theorem runSteps_words (answers : List Word) {s : State} {turns : List Turn} (hst : s.seqState = .streaming)
    (hleft : 4 * (s.seqWcnt.toNat + answers.length) < s.seqLen.toNat + 4)
    (hs : s.schedule = answers.map (fun a => .seq (some (.ok a))) ++ turns) :
    ∃ w, runSteps answers.length s = .next { s with
      schedule := turns, seqLastw := w, seqWcnt := s.seqWcnt + BitVec.ofNat 32 answers.length
      trace := s.trace ++ (List.range' s.seqWcnt.toNat answers.length).flatMap (wordEvents s) } := by
  induction answers generalizing s with
  | nil =>
    refine ⟨s.seqLastw, ?_⟩
    rw [show turns = s.schedule from hs.symm]
    simp [runSteps]
  | cons a rest ih =>
    rw [List.length_cons] at hleft
    have hsucc : (s.seqWcnt + 1#32).toNat = s.seqWcnt.toNat + 1 := by bv_omega
    have hword := step_streamWord hs hst ((wordsLeft_iff s).mpr (by omega)) fun _ _ h => by cases h
    obtain ⟨w, hwords⟩ := ih (s := { s with
      schedule := rest.map (fun a => .seq (some (.ok a))) ++ turns, seqLastw := payloadWord s
      seqWcnt := s.seqWcnt + 1#32, trace := s.trace ++ wordEvents s s.seqWcnt.toNat })
      hst (by simp only [hsucc]; omega) rfl
    refine ⟨w, ?_⟩
    rw [List.length_cons, runSteps_succ_of_next hword]
    refine hwords.trans ?_
    simp only [hsucc, List.range'_succ, List.flatMap_cons, List.append_assoc, add_one_add_ofNat]
    rfl

/-- A stream that is always answered sends all its words and verifies the last (R96 to R98). -/
theorem runSteps_stream {s : State} {answers : List Word} {turns : List Turn} (hst : s.seqState = .streaming)
    (hwcnt : s.seqWcnt = 0#32) (hlen : answers.length = (s.seqLen.toNat + 3) / 4)
    (hs : s.schedule = answers.map (fun a => .seq (some (.ok a))) ++ .seq none :: turns) :
    ∃ u, runSteps (answers.length + 1) s = .next u ∧
      u.schedule = turns ∧ u.seqState = .done ∧ u.seqCode = .ok ∧ u.seqAtt = s.seqAtt ∧
      u.seqWcnt.toNat = answers.length ∧
      u.trace = s.trace ++ (List.range answers.length).flatMap (wordEvents s) ++
        if 0 < answers.length ∧ u.seqLastw = 0x02000000#32 + s.seqLen - 4#32 then [.verifyOk u.seqLastw] else [] := by
  obtain ⟨w, hwords⟩ := runSteps_words answers hst (by simp only [hwcnt, hlen, BitVec.toNat_ofNat]; omega) hs
  rw [hwcnt, BitVec.zero_add] at hwords
  have hcount : (BitVec.ofNat 32 answers.length).toNat = answers.length := by
    rw [BitVec.toNat_ofNat, Nat.mod_eq_of_lt]
    have := s.seqLen.isLt
    omega
  have hverify := step_verify (s := { s with
    schedule := .seq none :: turns, seqLastw := w, seqWcnt := BitVec.ofNat 32 answers.length
    trace := s.trace ++ (List.range answers.length).flatMap (wordEvents s) }) rfl hst
    ((wordsLeft_eq_false_iff _).mpr (by simp only [hcount]; omega))
  rw [List.range_eq_range'] at hverify
  refine ⟨_, runSteps_trans hwords ((runSteps_one _).trans hverify), rfl, rfl, rfl, rfl, hcount, ?_⟩
  simp only [verifyMatch_iff, ← toNat_pos_iff, hcount, List.range_eq_range']

end Sys2Proof.Safety

namespace Sys2Proof

open Machine Safety

/-- Settles O40, by `runSteps_stream`. -/
theorem streamSendsCeilWords : Obligations.StreamSendsCeilWords := by
  intro s answers turns hst hwcnt hlen hs
  obtain ⟨u, hrun, hsched, hdone, hcode, _, hcount, _⟩ := runSteps_stream hst hwcnt hlen hs
  exact ⟨u, hrun, hsched, hdone, hcode, hcount.trans hlen⟩

end Sys2Proof
end

section
/-! PROOFS. Whole sessions, in runs (42_sequencer.md R88 to R98, R102): SEQ.START, the image, the attempts up to the
echo, the announcement and the stream. -/

namespace Sys2Proof.Safety

open Machine

/-- With the link mode PRIMITIVE a session sends the image and sets out on its attempts (R89, R90). -/
theorem runSteps_image {s : State} {ans : Option LinkAnswer} {status : LinkAnswer} {turns : List Turn}
    (hst : s.seqState = .sendingImage .check) (hmode : s.linkMode = .primitive)
    (hs : s.schedule = .seq ans :: .seq (some status) :: turns) :
    runSteps 2 s = .next { s with
      schedule := turns, seqState := .awaitingAck .probeW
      trace := s.trace ++ [.linkSendBulk s.params.imageLen] } :=
  runSteps_two ((seqCheckStep s ans _ hs hst).1 hmode) (seqBulkStep _ status turns rfl rfl).2

/-- The turns of a session up to its stream: the image, attempts that miss, one that echoes, and the announcement. -/
def handshakeTurns (ticks : Nat) (reads : List (Word × Word)) (status : LinkAnswer) (a c : Word) : List Turn :=
  .seq none :: .seq (some status) :: (reads.flatMap (missTurns ticks) ++
    [.seq (some (.ok a)), .seq (some (.ok probe)), .seq (some (.ok c))])

/-- The events of these turns, `w` being the word announced (R102). -/
def handshakeEvents (p : Params) (reads : List (Word × Word)) (w : Word) : List Event :=
  .linkSendBulk p.imageLen :: (reads.flatMap (fun r => attemptEvents r.2) ++
    (attemptEvents probe ++ [.linkWriteWord w]))

theorem length_handshakeTurns (ticks : Nat) (reads : List (Word × Word)) (status : LinkAnswer) (a c : Word) :
    (handshakeTurns ticks reads status a c).length = 2 + ((reads.flatMap (missTurns ticks)).length + 2) + 1 := by
  simp only [handshakeTurns, List.length_append, List.length_cons, List.length_nil]
  omega

/-- With the link mode PRIMITIVE and an echo among the first 16 attempts, a session comes to its stream, every answer
OK (R89 to R95). -/
theorem runSteps_toStream {s : State} {reads : List (Word × Word)} {status : LinkAnswer} {a c : Word}
    {turns : List Turn} (hst : s.seqState = .sendingImage .check) (hatt : s.seqAtt = 0#5)
    (hwait : s.seqWait = 0#32) (hmode : s.linkMode = .primitive) (hticks : s.params.ackWaitTicks < 2 ^ 32)
    (hfew : reads.length < 16) (hreads : ∀ p ∈ reads, p.2 ≠ probe)
    (hs : s.schedule = handshakeTurns s.params.ackWaitTicks reads status a c ++ turns) :
    runSteps (handshakeTurns s.params.ackWaitTicks reads status a c).length s = .next { s with
      schedule := turns, seqState := .streaming, seqAtt := BitVec.ofNat 5 (reads.length + 1)
      trace := s.trace ++ handshakeEvents s.params reads (s.seqLen >>> 2) } := by
  have hsplit : s.schedule = .seq none :: .seq (some status) :: (reads.flatMap (missTurns s.params.ackWaitTicks) ++
      [.seq (some (.ok a)), .seq (some (.ok probe))] ++ .seq (some (.ok c)) :: turns) := by
    simp [hs, handshakeTurns]
  have hecho := runSteps_trans (runSteps_image hst hmode hsplit)
    (echoStopsProbing _ reads a _ (by rfl) (by exact hatt) (by exact hwait) (by exact hticks) hfew hreads (by rfl))
  have hannounce := runSteps_trans hecho ((runSteps_one _).trans
    ((announceSizeStep _ (.ok c) _ _ (by rfl) (by rfl) (by rfl)).2.2.1 fun _ _ h => by cases h))
  rw [length_handshakeTurns]
  refine hannounce.trans ?_
  simp only [List.append_assoc]
  rfl

/-- Where the length is a multiple of 4, the word count announced is the number of words sent (R95, R97). -/
theorem shiftRight_two_of_toNat {x : Word} {n : Nat} (h : x.toNat = 4 * n) : x >>> 2 = BitVec.ofNat 32 n := by
  have := x.isLt
  apply BitVec.eq_of_toNat_eq
  rw [BitVec.toNat_ushiftRight, Nat.shiftRight_eq_div_pow, BitVec.toNat_ofNat]
  omega

/-- A session from its first step on: the handshake, then the stream (R102). -/
theorem runSteps_session {s : State} {reads : List (Word × Word)} {status : LinkAnswer} {a c : Word}
    {answers : List Word} {turns : List Turn} (hst : s.seqState = .sendingImage .check) (hatt : s.seqAtt = 0#5)
    (hwait : s.seqWait = 0#32) (hwcnt : s.seqWcnt = 0#32) (hmode : s.linkMode = .primitive)
    (hticks : s.params.ackWaitTicks < 2 ^ 32) (hfew : reads.length < 16) (hreads : ∀ p ∈ reads, p.2 ≠ probe)
    (hlen : s.seqLen.toNat = 4 * answers.length)
    (hs : s.schedule = handshakeTurns s.params.ackWaitTicks reads status a c ++
      (answers.map (fun x => .seq (some (.ok x))) ++ .seq none :: turns)) :
    ∃ u, runSteps ((handshakeTurns s.params.ackWaitTicks reads status a c).length + (answers.length + 1)) s =
        .next u ∧
      u.schedule = turns ∧ u.seqState = .done ∧ u.seqCode = .ok ∧ u.seqAtt.toNat = reads.length + 1 ∧
      u.seqWcnt.toNat = answers.length ∧
      u.trace = s.trace ++ handshakeEvents s.params reads (BitVec.ofNat 32 answers.length) ++
        (List.range answers.length).flatMap (wordEvents s) ++
        if 0 < answers.length ∧ u.seqLastw = 0x02000000#32 + s.seqLen - 4#32 then [.verifyOk u.seqLastw] else [] := by
  have hready := runSteps_toStream hst hatt hwait hmode hticks hfew hreads hs
  rw [shiftRight_two_of_toNat hlen] at hready
  obtain ⟨u, hstream, hsched, hdone, hcode, huatt, hcount, htrace⟩ := runSteps_stream (s := { s with
    schedule := answers.map (fun x => .seq (some (.ok x))) ++ .seq none :: turns, seqState := .streaming
    seqAtt := BitVec.ofNat 5 (reads.length + 1)
    trace := s.trace ++ handshakeEvents s.params reads (BitVec.ofNat 32 answers.length) })
    rfl hwcnt (by simp only [hlen]; omega) rfl
  refine ⟨u, runSteps_trans hready hstream, hsched, hdone, hcode, ?_, hcount, htrace⟩
  rw [huatt, BitVec.toNat_ofNat, Nat.mod_eq_of_lt (by omega)]

end Sys2Proof.Safety

namespace Sys2Proof

open Machine Safety

/-- Settles O47: SEQ.START makes the state in which the session begins (`runSteps_session`). -/
theorem successfulSessionTrace : Obligations.SuccessfulSessionTrace := by
  intro s reads status a c answers turns hidle hmode hticks hfew hreads hopa hs
  have hstart := seqStartCompletes.1 s (s.seqState.busy_eq_false_iff.mp hidle)
  have hsplit : s.schedule = handshakeTurns s.params.ackWaitTicks reads status a c ++
      (answers.map (fun x => .seq (some (.ok x))) ++ .seq none :: turns) := by
    simp [hs, handshakeTurns, probe]
  have hturns : 6 + (reads.flatMap (missTurns s.params.ackWaitTicks)).length + answers.length =
      (handshakeTurns s.params.ackWaitTicks reads status a c).length + (answers.length + 1) := by
    rw [length_handshakeTurns]
    omega
  obtain ⟨u, hrun, hsched, hdone, hcode, hatt, hcount, htrace⟩ := runSteps_session (s := { s with
    seqLen := s.opa, seqBase := s.opb, seqAtt := 0#5, seqWcnt := 0#32, seqLastw := 0#32
    seqTerr := 0#32, seqWait := 0#32, seqCode := .none, seqVmatch := false
    seqState := .sendingImage .check, cmdErr := .ok, cmdOp := 0x6#4 })
    rfl rfl rfl rfl hmode hticks hfew hreads hopa hsplit
  refine ⟨_, u, hstart, (by rw [hturns]; exact hrun), hsched, hdone, hcode, hatt, hcount, ?_⟩
  rw [htrace]
  simp [handshakeEvents, probe]

end Sys2Proof
end

section
/-! PROOFS. A command that fails, the host beside SEQ, a link agent that does not answer, and the link mode
(60_exceptions.md R105, R107, R109, R113). -/

namespace Sys2Proof.Machine

/-! A transaction that is not answered (R105). -/

/-- While the link agent does not answer, a step that needs a transaction is not enabled. -/
theorem seqTurn_unanswered {s : State} {q : LinkRequest} (hq : linkRequest s = some q) : seqTurn none s = s := by
  simp only [seqTurn, hq]

/-! Outside SENDING_IMAGE/CHECK a turn of SEQ commutes with the link agent's change of the link mode (R107). -/

@[simp] theorem linkRequest_driveLinkMode (m : LinkMode) (s : State) :
    linkRequest (driveLinkMode m s) = linkRequest s := rfl

@[simp] theorem wordsLeft_driveLinkMode (m : LinkMode) (s : State) :
    wordsLeft (driveLinkMode m s) = wordsLeft s := rfl

@[simp] theorem payloadWord_driveLinkMode (m : LinkMode) (s : State) :
    payloadWord (driveLinkMode m s) = payloadWord s := rfl

@[simp] theorem emit_driveLinkMode (e : Event) (m : LinkMode) (s : State) :
    emit e (driveLinkMode m s) = driveLinkMode m (emit e s) := rfl

theorem seqWaitExpiry_driveLinkMode (m : LinkMode) (s : State) :
    seqWaitExpiry (driveLinkMode m s) = driveLinkMode m (seqWaitExpiry s) := by
  simp only [seqWaitExpiry, apply_ite (driveLinkMode m)]
  rfl

theorem seqVerify_driveLinkMode (m : LinkMode) (s : State) :
    seqVerify (driveLinkMode m s) = driveLinkMode m (seqVerify s) := by
  simp only [seqVerify, apply_ite (driveLinkMode m)]
  rfl

theorem seqProbeRead_driveLinkMode (r : LinkAnswer) (m : LinkMode) (s : State) :
    seqProbeRead r (driveLinkMode m s) = driveLinkMode m (seqProbeRead r s) := by
  simp only [seqProbeRead, apply_ite (driveLinkMode m)]
  rfl

/-- The effect of an answered transaction, in each state of SEQ. -/
theorem seqLinkStep_driveLinkMode (r : LinkAnswer) (m : LinkMode) (s : State) :
    seqLinkStep r (driveLinkMode m s) = driveLinkMode m (seqLinkStep r s) := by
  simp only [seqLinkStep, driveLinkMode_seqState, wordsLeft_driveLinkMode, payloadWord_driveLinkMode]
  split
  case h_5 hprobeR => exact seqProbeRead_driveLinkMode r m s
  case h_8 hstreaming => rw [apply_ite (driveLinkMode m)]; rfl
  all_goals rfl

theorem seqTransact_driveLinkMode (q : LinkRequest) (r : LinkAnswer) (m : LinkMode) (s : State) :
    seqTransact q r (driveLinkMode m s) = driveLinkMode m (seqTransact q r s) := by
  simp only [seqTransact, driveLinkMode_params, emit_driveLinkMode]
  cases requestAbort s.params.xportErrPolicy q r with
  | some code => rfl
  | none => exact seqLinkStep_driveLinkMode r m (emit (q.event r) s)

/-- Only the check samples the link mode (42_sequencer.md R89). -/
theorem seqTurn_driveLinkMode {s : State} (hcheck : s.seqState ≠ .sendingImage .check) (m : LinkMode)
    (ans : Option LinkAnswer) : seqTurn ans (driveLinkMode m s) = driveLinkMode m (seqTurn ans s) := by
  cases hq : linkRequest s with
  | none =>
    obtain hst | hst | ⟨hst, hleft⟩ | hst := linkRequest_none_cases hq
    · exact absurd hst hcheck
    · rw [seqTurn_wait hst, seqTurn_wait (by exact hst), seqWaitExpiry_driveLinkMode]
    · rw [seqTurn_streamEnd hst hleft, seqTurn_streamEnd (by exact hst) (by exact hleft), seqVerify_driveLinkMode]
    · rw [seqTurn_of_not_busy hst, seqTurn_of_not_busy (by exact hst)]
  | some q =>
    have hqm : linkRequest (driveLinkMode m s) = some q := (linkRequest_driveLinkMode m s).trans hq
    cases ans with
    | none => rw [seqTurn_unanswered hq, seqTurn_unanswered hqm]
    | some r => rw [seqTurn_answered hq, seqTurn_answered hqm, seqTransact_driveLinkMode]

end Sys2Proof.Machine

namespace Sys2Proof

open Machine

/-- Settles O6: the code in CMDSTAT is the one the word reports, and a word that reports another than OK has no
other effect (`commandWriteFollowsDecode`). -/
theorem failedCommandChangesOnlyCmdstat : Obligations.FailedCommandChangesOnlyCmdstat := by
  intro w s t ht hfail
  obtain ⟨u, hu, herr, hop, honly, _⟩ := commandWriteFollowsDecode w s
  obtain rfl : t = u := Host.Outcome.next.inj (ht.symm.trans hu)
  rw [herr] at hfail
  rw [herr, hop]
  exact honly hfail

/-- Settles O50, by what a turn of the host can do to SEQ (`hostTurn_seq_cases`). -/
theorem hostLeavesSeqAlone : Obligations.HostLeavesSeqAlone := by
  intro s s' turns hs h
  rw [step_cons hs] at h
  obtain hsame | ⟨hbusy, _, hline⟩ := hostTurn_seq_cases h
  · exact .inl hsame
  · exact .inr ⟨hbusy, hline⟩

/-- Settles O53: outside the check, SEQ's turn commutes with a change of the link mode (`seqTurn_driveLinkMode`). -/
theorem linkModeReadOnlyAtCheck : Obligations.LinkModeReadOnlyAtCheck := by
  intro s s' m ans turns hs hcheck h
  rw [step_seq hs] at h
  cases h
  have hsm : (driveLinkMode m s).schedule = .seq ans :: turns := hs
  exact (step_seq hsm).trans
    (congrArg _ (seqTurn_driveLinkMode (s := { s with schedule := turns }) hcheck m ans))

/-- Settles O44: SEQ's turn, not answered, leaves all but the schedule. -/
theorem seqBlocksWithoutAnswer : Obligations.SeqBlocksWithoutAnswer := by
  intro s q turns hs hq
  rw [step_seq hs, seqTurn_unanswered (by rw [linkRequest_withSchedule, hq])]

end Sys2Proof
end

section
/-! PROOFS. A reset (70_reset_and_hazards.md R120): every register reads 0 after it, as in `State.reset`. -/

namespace Sys2Proof.Machine

/-- At `State.reset` every field of every register is 0, so each register's layout gives the word 0. -/
theorem readReg_reset (r : Reg) : readReg r State.reset = 0#32 := by
  cases r <;> rfl

/-- No register shows what a reset leaves: the trace, the parameters, and what lies outside MBCORE. -/
theorem readReg_resetTurn (r : Reg) (s : State) : readReg r (resetTurn s) = readReg r State.reset := by
  cases r <;> rfl

end Sys2Proof.Machine

namespace Sys2Proof

open Machine

/-- Settles O58: the step is the reset (`step_cons`), after which every register reads as at `State.reset`. -/
theorem resetZeroesEveryRegister : Obligations.ResetZeroesEveryRegister := by
  refine ⟨fun s turns hs => ?_, readReg_reset, rfl⟩
  exact ⟨_, step_cons hs, fun r => (readReg_resetTurn r _).trans (readReg_reset r), rfl, rfl, rfl⟩

end Sys2Proof
end

section
/-! PROOFS. What SEQ's registers hold (10_state.md R23 to R30), step by step of a session: while it runs no outcome is
recorded, and each way it can end records its own (42_sequencer.md R89, R94, R98, R99). -/

namespace Sys2Proof.Safety

open Sys2Proof.Machine

theorem codeFits_of_busy {st : SeqState} (h : st.busy = true) (c : SeqCode) :
    codeFits st c = true ↔ c = .none := by
  cases st with
  | sendingImage | awaitingAck | announcingSize | streaming => exact decide_eq_true_iff
  | idle | done | failed => cases h

/-- No state of SEQ goes with more than 16 attempts (10_state.md R26). -/
theorem attFits_le {st : SeqState} {n : Nat} (h : attFits st n = true) : n ≤ 16 := by
  unfold attFits at h
  split at h <;> have := of_decide_eq_true h <;> omega

/-- What SEQ's registers hold while a session runs: no outcome is recorded yet. -/
structure RunningSeq (s : State) : Prop where
  busy : s.seqState.busy = true
  code : s.seqCode = .none
  vmatch : s.seqVmatch = false
  terr : s.seqTerr = 0#32
  att : attFits s.seqState s.seqAtt.toNat = true
  wcnt : s.seqWcnt.toNat ≤ wordsTotal s
  unsent : mayHaveSent s.seqState = false → s.seqWcnt = 0#32
  lastw : s.seqWcnt = 0#32 → s.seqLastw = 0#32
  wait : s.seqState ≠ .awaitingAck .wait → s.seqWait = 0#32

/-- While a session runs, `RunningSeq` is what the invariant says of SEQ. -/
theorem runningSeq_iff {s : State} (hbusy : s.seqState.busy = true) : RunningSeq s ↔ SeqInvariant s := by
  have hne {st : SeqState} (hst : st.busy = false) : s.seqState ≠ st := by
    rintro rfl
    rw [hst] at hbusy
    cases hbusy
  constructor
  · intro h
    exact {
      idle := fun hst => absurd hst (hne rfl)
      code := (codeFits_of_busy hbusy _).mpr h.code
      att := h.att
      timeout := by rw [h.code]; nofun
      precondition := by rw [h.code]; nofun
      wcnt := h.wcnt
      unsent := h.unsent
      complete := fun hst => absurd hst (hne rfl)
      lastw := h.lastw
      vmatch := by rw [h.vmatch]; nofun
      terr := fun _ => h.terr
      transport := by rw [h.code]; nofun
      wait := h.wait }
  · intro h
    have hcode := (codeFits_of_busy hbusy _).mp h.code
    exact {
      busy := hbusy
      code := hcode
      vmatch := Bool.eq_false_iff.mpr fun hv => hne rfl (h.vmatch hv).left
      terr := h.terr (by rw [hcode]; nofun)
      att := h.att
      wcnt := h.wcnt
      unsent := h.unsent
      lastw := h.lastw
      wait := h.wait }

theorem SeqInvariant.running {s : State} (h : SeqInvariant s) (hbusy : s.seqState.busy = true) : RunningSeq s :=
  (runningSeq_iff hbusy).mpr h

theorem RunningSeq.seqInvariant {s : State} (h : RunningSeq s) : SeqInvariant s :=
  (runningSeq_iff h.busy).mp h

/-- The attempts that the invariant allows, in a state of SEQ that is known. -/
theorem SeqInvariant.att_at {s : State} (h : SeqInvariant s) {st : SeqState} (hst : s.seqState = st) :
    attFits st s.seqAtt.toNat = true :=
  hst ▸ h.att

/-- The invariant of SEQ is about SEQ's registers and the parameters alone. -/
theorem SeqInvariant.congr {s t : State} (h : SeqInvariant s) (hsame : SameSeq s t)
    (hparams : t.params = s.params) : SeqInvariant t := by
  obtain ⟨⟩ := s
  obtain ⟨⟩ := t
  obtain ⟨hst, hcode, hvmatch, hlen, hbase, hatt, hwcnt, hlastw, hterr, hwait⟩ := hsame
  subst hst hcode hvmatch hlen hbase hatt hwcnt hlastw hterr hwait hparams
  exact { h with }

theorem seqInvariant_emit {s : State} (h : SeqInvariant s) (e : Event) : SeqInvariant (emit e s) :=
  h.congr (by simp [SameSeq]) rfl

/-! How a session goes on. -/

/-- A step of a session that sends no word: SEQ moves on, with the attempts and the wait that its new state allows. -/
theorem RunningSeq.advance {s : State} (h : RunningSeq s) {st : SeqState} {att : BitVec 5} {wait : Word}
    (hbusy : st.busy = true) (hatt : attFits st att.toNat = true)
    (hsent : mayHaveSent st = false → s.seqWcnt = 0#32) (hwait : st ≠ .awaitingAck .wait → wait = 0#32) :
    SeqInvariant { s with seqState := st, seqAtt := att, seqWait := wait } :=
  RunningSeq.seqInvariant { h with busy := hbusy, att := hatt, unsent := hsent, wait := hwait }

/-- A word is sent and counted: SEQ_WCNT cannot wrap, as it stays at most the session's number of words (R97). -/
theorem RunningSeq.wordSent {s : State} (h : RunningSeq s) (hst : s.seqState = .streaming)
    (hleft : wordsLeft s = true) (w : Word) :
    SeqInvariant { s with seqLastw := w, seqWcnt := s.seqWcnt + 1#32 } := by
  have hmore := (wordsLeft_iff s).mp hleft
  have hsucc : (s.seqWcnt + 1#32).toNat = s.seqWcnt.toNat + 1 := by bv_omega
  have hpos : s.seqWcnt + 1#32 ≠ 0#32 := toNat_pos_iff.mp (by omega)
  exact RunningSeq.seqInvariant { h with
    wcnt := by simp only [hsucc, wordsTotal]; omega
    unsent := by simp only [hst]; nofun
    lastw := fun hzero => absurd hzero hpos }

/-! How a session ends. -/

/-- A session fails, with a code and what the invariant says goes with that code. -/
theorem RunningSeq.failed {s : State} (h : RunningSeq s) {c : SeqCode} {e : Word} (hwait : s.seqWait = 0#32)
    (hcode : codeFits .failed c = true) (htimeout : c = .timeout → s.seqAtt = 16#5)
    (hprecondition : c = .precondition → s.seqAtt = 0#5 ∧ s.seqWcnt = 0#32)
    (hterr : c ≠ .transport → e = 0#32) (htransport : c = .transport → s.params.xportErrPolicy = .abort) :
    SeqInvariant { s with seqState := .failed, seqCode := c, seqTerr := e } where
  idle := nofun
  code := hcode
  att := decide_eq_true (attFits_le h.att)
  timeout := htimeout
  precondition := hprecondition
  wcnt := h.wcnt
  unsent := nofun
  complete := nofun
  lastw := h.lastw
  vmatch := by simp only [h.vmatch]; nofun
  terr := hterr
  transport := htransport
  wait _ := hwait

/-- A session is done: all words are sent, and VMATCH is 1 only where the verification matched (R98). -/
theorem RunningSeq.done {s : State} (h : RunningSeq s) (hst : s.seqState = .streaming) (hleft : wordsLeft s = false)
    {v : Bool} (hv : v = true → verifyMatch s = true) :
    SeqInvariant { s with seqVmatch := v, seqState := .done, seqCode := .ok } where
  idle := nofun
  code := rfl
  att := (h.seqInvariant.att_at hst :)
  timeout := nofun
  precondition := nofun
  wcnt := h.wcnt
  unsent := nofun
  complete _ := by
    have hall := (wordsLeft_eq_false_iff s).mp hleft
    have hwcnt := h.wcnt
    simp only [wordsTotal] at hwcnt ⊢
    omega
  lastw := h.lastw
  vmatch hmatch := ⟨rfl, hv hmatch⟩
  terr _ := h.terr
  transport := nofun
  wait _ := h.wait (by rw [hst]; nofun)

end Sys2Proof.Safety
end

section
/-! PROOFS. Each step of SEQ, each tick, each command and a reset keep what SEQ's registers hold (42_sequencer.md R88
to R99). -/

namespace Sys2Proof.Safety

open Sys2Proof.Machine

/-! The steps of SEQ, each in its state. -/

theorem seqInvariant_seqCheck {s : State} (h : SeqInvariant s) (hst : s.seqState = .sendingImage .check) :
    SeqInvariant (seqCheck s) := by
  have hrun := h.running (by rw [hst]; rfl)
  have hwait := h.wait (by rw [hst]; nofun)
  have hatt := h.att_at hst
  have hsent : s.seqWcnt = 0#32 := h.unsent (by rw [hst]; rfl)
  unfold seqCheck
  split
  · have hzero : s.seqAtt = 0#5 := BitVec.eq_of_toNat_eq (of_decide_eq_true hatt)
    exact hrun.failed hwait rfl nofun (fun _ => ⟨hzero, hsent⟩) (fun _ => hrun.terr) nofun
  · exact hrun.advance rfl hatt (fun _ => hsent) fun _ => hwait

theorem seqInvariant_seqBulk {s : State} (h : SeqInvariant s) (hst : s.seqState = .sendingImage .bulk) :
    SeqInvariant (seqBulk s) := by
  have hrun := h.running (by rw [hst]; rfl)
  have hzero : s.seqAtt.toNat = 0 := of_decide_eq_true (h.att_at hst)
  exact hrun.advance rfl (decide_eq_true (by omega)) (fun _ => h.unsent (by rw [hst]; rfl))
    fun _ => h.wait (by rw [hst]; nofun)

theorem seqInvariant_seqProbeWrite {s : State} (h : SeqInvariant s) (hst : s.seqState = .awaitingAck .probeW) :
    SeqInvariant (seqProbeWrite s) := by
  have hrun := h.running (by rw [hst]; rfl)
  exact hrun.advance rfl (h.att_at hst :) (fun _ => h.unsent (by rw [hst]; rfl)) fun _ => h.wait (by rw [hst]; nofun)

/-- The attempt is counted, and there are at most 16 of them (R92). -/
theorem seqInvariant_seqProbeRead {s : State} (h : SeqInvariant s) (hst : s.seqState = .awaitingAck .probeR)
    (r : LinkAnswer) : SeqInvariant (seqProbeRead r s) := by
  have hrun := h.running (by rw [hst]; rfl)
  have hsent : s.seqWcnt = 0#32 := h.unsent (by rw [hst]; rfl)
  have hlt : s.seqAtt.toNat < 16 := of_decide_eq_true (h.att_at hst)
  have hcount : 1 ≤ (s.seqAtt + 1#5).toNat ∧ (s.seqAtt + 1#5).toNat ≤ 16 := by bv_omega
  unfold seqProbeRead
  split
  · exact hrun.advance rfl (decide_eq_true hcount) (fun _ => hsent) fun _ => h.wait (by rw [hst]; nofun)
  · exact hrun.advance rfl (decide_eq_true hcount) (fun _ => hsent) (absurd rfl)

/-- A wait that expires is over, and without an attempt left all 16 have been made (R94). -/
theorem seqInvariant_seqWaitExpiry {s : State} (h : SeqInvariant s) (hst : s.seqState = .awaitingAck .wait) :
    SeqInvariant (seqWaitExpiry s) := by
  have hrun := h.running (by rw [hst]; rfl)
  have hatt := of_decide_eq_true (h.att_at hst)
  unfold seqWaitExpiry
  split_ifs with hwait hmore
  · exact hrun.advance rfl (decide_eq_true hmore) (fun _ => h.unsent (by rw [hst]; rfl)) fun _ => hwait
  · have hall : s.seqAtt = 16#5 := by simp only [ackAttempts] at hmore; bv_omega
    exact hrun.failed hwait rfl (fun _ => hall) nofun (fun _ => hrun.terr) nofun
  · exact h

theorem seqInvariant_seqAnnounce {s : State} (h : SeqInvariant s) (hst : s.seqState = .announcingSize) :
    SeqInvariant (seqAnnounce s) := by
  have hrun := h.running (by rw [hst]; rfl)
  exact hrun.advance rfl (h.att_at hst :) nofun fun _ => h.wait (by rw [hst]; nofun)

theorem seqInvariant_seqStreamed {s : State} (h : SeqInvariant s) (hst : s.seqState = .streaming)
    (hleft : wordsLeft s = true) (w : Word) : SeqInvariant (seqStreamed w s) :=
  seqInvariant_emit ((h.running (by rw [hst]; rfl)).wordSent hst hleft w) _

theorem seqInvariant_seqVerify {s : State} (h : SeqInvariant s) (hst : s.seqState = .streaming)
    (hleft : wordsLeft s = false) : SeqInvariant (seqVerify s) := by
  have hrun := h.running (by rw [hst]; rfl)
  unfold seqVerify
  split
  · next hmatch => exact seqInvariant_emit (hrun.done hst hleft fun _ => hmatch) _
  · exact hrun.done hst hleft nofun

/-! A turn of SEQ, and a tick. -/

theorem seqInvariant_seqLocalStep {s : State} (h : SeqInvariant s) : SeqInvariant (seqLocalStep s) := by
  unfold seqLocalStep
  split
  case h_2 hcheck => exact seqInvariant_seqCheck h hcheck
  case h_6 hwait => exact seqInvariant_seqWaitExpiry h hwait
  case h_8 hstreaming =>
    split
    · exact h
    · next hleft => exact seqInvariant_seqVerify h hstreaming (Bool.eq_false_iff.mpr hleft)
  all_goals exact h

theorem seqInvariant_seqLinkStep {s : State} (h : SeqInvariant s) (r : LinkAnswer) :
    SeqInvariant (seqLinkStep r s) := by
  unfold seqLinkStep
  split
  case h_3 hbulk => exact seqInvariant_seqBulk h hbulk
  case h_4 hprobeW => exact seqInvariant_seqProbeWrite h hprobeW
  case h_5 hprobeR => exact seqInvariant_seqProbeRead h hprobeR r
  case h_7 hannounce => exact seqInvariant_seqAnnounce h hannounce
  case h_8 hstreaming =>
    split
    · next hleft => exact seqInvariant_seqStreamed h hstreaming hleft _
    · exact h
  all_goals exact h

/-- A transport error ends a session under ABORT only, and never during a wait (R99). -/
theorem seqInvariant_transportAbort {s : State} (h : SeqInvariant s) (hbusy : s.seqState.busy = true)
    (hst : s.seqState ≠ .awaitingAck .wait) (hpolicy : s.params.xportErrPolicy = .abort) (code : Word) :
    SeqInvariant (transportAbort code s) :=
  (h.running hbusy).failed (h.wait hst) rfl nofun nofun (absurd rfl) fun _ => hpolicy

theorem seqInvariant_seqTransact {s : State} {q : LinkRequest} (h : SeqInvariant s) (hq : linkRequest s = some q)
    (r : LinkAnswer) : SeqInvariant (seqTransact q r s) := by
  obtain ⟨code, _, _, hpolicy, hbulk, ht⟩ | ⟨_, ht⟩ := seqTransact_cases q r s <;> rw [ht]
  · have hsrc : s.seqState.busy = true ∧ s.seqState ≠ .awaitingAck .wait := by
      obtain hst | hst | hst | hst := aborted_src hq hbulk <;> rw [hst] <;> exact ⟨rfl, nofun⟩
    exact seqInvariant_transportAbort (seqInvariant_emit h _) hsrc.left hsrc.right hpolicy code
  · exact seqInvariant_seqLinkStep (seqInvariant_emit h _) r

theorem seqInvariant_seqTurn {s : State} (h : SeqInvariant s) (ans : Option LinkAnswer) :
    SeqInvariant (seqTurn ans s) := by
  obtain ⟨_, ht⟩ | ⟨_, _, _, ht⟩ | ⟨q, r, hq, _, ht⟩ := seqTurn_cases ans s <;> rw [ht]
  · exact seqInvariant_seqLocalStep h
  · exact h
  · exact seqInvariant_seqTransact h hq r

theorem seqInvariant_tickTurn {s : State} (h : SeqInvariant s) : SeqInvariant (tickTurn s) := by
  obtain ⟨hst, _, ht⟩ | ht := tickTurn_cases s <;> rw [ht]
  · have hrun := h.running (by rw [hst]; rfl)
    exact hrun.advance hrun.busy h.att h.unsent fun hne => absurd hst hne
  · exact h

/-! Commands, and a reset. -/

/-- SEQ.START outside a session clears all that a session records (R88). -/
theorem seqInvariant_seqStart {s t : State} (h : exec .seqStart s = .next t) (hbusy : s.seqState.busy = false) :
    SeqInvariant t := by
  simp only [exec, execSeqStart, hbusy, Bool.false_eq_true, if_false] at h
  cases h
  exact RunningSeq.seqInvariant
    ⟨rfl, rfl, rfl, rfl, rfl, Nat.zero_le _, fun _ => rfl, fun _ => rfl, fun _ => rfl⟩

theorem seqInvariant_exec {i : Instr} {s t : State} (hinv : SeqInvariant s) (h : exec i s = .next t) :
    SeqInvariant t := by
  obtain hsame | ⟨rfl, hbusy, _⟩ := exec_seq_cases h
  · obtain ⟨_, _, _, hparams, _⟩ := exec_frame h
    exact hinv.congr hsame hparams
  · exact seqInvariant_seqStart h hbusy

theorem seqInvariant_resetTurn (s : State) : SeqInvariant (resetTurn s) where
  idle _ := ⟨rfl, rfl⟩
  code := rfl
  att := rfl
  timeout := nofun
  precondition := nofun
  wcnt := Nat.zero_le _
  unsent _ := rfl
  complete := nofun
  lastw _ := rfl
  vmatch := nofun
  terr _ := rfl
  transport := nofun
  wait _ := rfl

end Sys2Proof.Safety
end

section
/-! PROOFS. Every step keeps the invariant (70_reset_and_hazards.md R121): CKS and KSC change by commands and by a
reset only, SEQ as the lemmas about its steps say, and the payload by another writer's byte. -/

namespace Sys2Proof.Safety

open Sys2Proof.Machine

/-! CKS and KSC at a command (40_checksum.md R72 to R74; 41_cipher.md R80, R81). -/

/-- Only CRC.INIT writes CKS_POLY or CKS_CTL, and only it and the folds after it write the rest of CKS. -/
theorem cksInvariant_exec {i : Instr} {s t : State} (hinv : CksInvariant s) (h : exec i s = .next t) :
    CksInvariant t := by
  cases i with
  | crcInit m => cases h; exact ⟨nofun, fun _ => rfl⟩
  | crcAcc | crcFin =>
    cases hv : s.cksV with
    | false =>
      simp only [exec_crcAcc_notInit hv, exec_crcFin_notInit hv] at h
      cases h
      exact ⟨hinv.fresh, hinv.poly⟩
    | true =>
      simp only [exec_crcAcc hv, exec_crcFin hv] at h
      cases h
      exact ⟨fun hfresh => absurd (hv.symm.trans hfresh) nofun, hinv.poly⟩
  | ciphInit m => cases h; exact ⟨hinv.fresh, hinv.poly⟩
  | ciphXform | seqStart =>
    simp only [exec, execCiphXform, execSeqStart] at h
    split at h <;> cases h <;> exact ⟨hinv.fresh, hinv.poly⟩

/-- Only CIPH.INIT writes KSC_KEY or KSC_CTL, and only it and the transforms after it write KSC_SEED. -/
theorem kscInvariant_exec {i : Instr} {s t : State} (hinv : KscInvariant s) (h : exec i s = .next t) :
    KscInvariant t := by
  cases i with
  | ciphInit m => cases h; exact ⟨nofun, fun _ => rfl⟩
  | ciphXform =>
    cases hv : s.kscV with
    | false => rw [exec_ciphXform_notInit hv] at h; cases h; exact ⟨hinv.fresh, hinv.key⟩
    | true =>
      rw [exec_ciphXform hv] at h
      cases h
      exact ⟨fun hfresh => absurd (hv.symm.trans hfresh) nofun, hinv.key⟩
  | crcInit m => cases h; exact ⟨hinv.fresh, hinv.key⟩
  | crcAcc | crcFin | seqStart =>
    simp only [exec, execCrcAcc, execCrcFin, execSeqStart] at h
    split at h <;> cases h <;> exact ⟨hinv.fresh, hinv.key⟩

/-! What the invariant does not speak of, and what a turn outside the command side must keep. -/

/-- `s` with all that the invariant leaves free taken from `c`: OPA, OPB, RESULT, CMDSTAT, the event trace, the link
mode, and what the model keeps of the host and of the interleaving. -/
def withFree (c s : State) : State :=
  { s with
    opa := c.opa, opb := c.opb, result := c.result, cmdErr := c.cmdErr, cmdOp := c.cmdOp, trace := c.trace
    linkMode := c.linkMode, hostProgram := c.hostProgram, hostReads := c.hostReads, schedule := c.schedule }

/-- A state that differs in such places alone from one with the invariant has it too. -/
theorem Invariant.congr {s t : State} (h : Invariant s) (ht : t = withFree t s) : Invariant t := by
  rw [ht]
  exact ⟨h.payload, h.params, ⟨h.cks.fresh, h.cks.poly⟩, ⟨h.ksc.fresh, h.ksc.key⟩,
    h.seq.congr (by simp [SameSeq, withFree]) rfl⟩

/-- CKS and KSC are of the command side: where it stays, only SEQ and the payload are to be looked at. -/
theorem Invariant.of_commandSide {s t : State} (h : Invariant s) (hside : t = withCommandSide s t)
    (hparams : t.params = s.params) (hpayload : Memory.wf t.payload) (hseq : SeqInvariant t) : Invariant t where
  payload := hpayload
  params := hparams ▸ h.params
  cks := by rw [hside]; exact ⟨h.cks.fresh, h.cks.poly⟩
  ksc := by
    rw [hside]
    refine ⟨h.ksc.fresh, ?_⟩
    rw [withCommandSide_params, hparams]
    exact h.ksc.key
  seq := hseq

/-! The turns (10_state.md R9). -/

theorem invariant_exec {i : Instr} {s t : State} (hinv : Invariant s) (h : exec i s = .next t) : Invariant t := by
  obtain ⟨_, _, _, hparams, _, hpayload, _⟩ := exec_frame h
  exact {
    payload := hpayload ▸ hinv.payload
    params := hparams ▸ hinv.params
    cks := cksInvariant_exec hinv.cks h
    ksc := kscInvariant_exec hinv.ksc h
    seq := seqInvariant_exec hinv.seq h }

theorem invariant_writeCommand {w : Word} {s t : State} (hinv : Invariant s) (h : writeCommand w s = .next t) :
    Invariant t := by
  obtain ⟨i, _, hw⟩ | ⟨e, _, hw⟩ := writeCommand_cases w s <;> rw [hw] at h
  · exact invariant_exec hinv h
  · cases h; exact hinv.congr rfl

theorem invariant_hostTurn {s t : State} (hinv : Invariant s) (h : hostTurn s = .next t) : Invariant t := by
  obtain hread | ⟨_, _, _, rfl⟩ | ⟨_, _, _, rfl⟩ | ⟨w, lines, _, hw⟩ := hostTurn_next_cases h
  · exact hinv.congr (by rw [hread]; rfl)
  · exact hinv.congr rfl
  · exact hinv.congr rfl
  · have hline : Invariant { s with hostProgram := lines } := hinv.congr rfl
    exact invariant_writeCommand hline hw

theorem invariant_seqTurn {s : State} (h : Invariant s) (ans : Option LinkAnswer) : Invariant (seqTurn ans s) :=
  h.of_commandSide (seqTurn_withCommandSide s ans s) (seqTurn_params ans s) (by simpa using h.payload)
    (seqInvariant_seqTurn h.seq ans)

theorem invariant_tickTurn {s : State} (h : Invariant s) : Invariant (tickTurn s) :=
  h.of_commandSide (tickTurn_withCommandSide s s) (tickTurn_params s) (by simpa using h.payload)
    (seqInvariant_tickTurn h.seq)

theorem invariant_writePayload {s : State} (h : Invariant s) (a : Word) (b : Byte) :
    Invariant (writePayload a b s) :=
  h.of_commandSide rfl rfl (writePayload_wf h.payload a b) (h.seq.congr (by simp [SameSeq]) rfl)

/-- A reset makes CKS and KSC uninitialized and SEQ IDLE, and leaves the payload and the parameters (R120). -/
theorem invariant_resetTurn {s : State} (h : Invariant s) : Invariant (resetTurn s) where
  payload := h.payload
  params := h.params
  cks := ⟨fun _ => ⟨rfl, rfl, rfl, rfl, rfl⟩, nofun⟩
  ksc := ⟨fun _ => ⟨rfl, rfl, rfl⟩, nofun⟩
  seq := seqInvariant_resetTurn s

/-- One turn of any agent. -/
theorem invariant_runTurn {turn : Turn} {s t : State} (hinv : Invariant s) (h : runTurn turn s = .next t) :
    Invariant t := by
  cases turn with
  | host => exact invariant_hostTurn hinv h
  | seq ans => cases h; exact invariant_seqTurn hinv ans
  | tick => cases h; exact invariant_tickTurn hinv
  | linkMode m => cases h; exact hinv.congr rfl
  | payloadWrite a b => cases h; exact invariant_writePayload hinv a b
  | reset => cases h; exact invariant_resetTurn hinv

end Sys2Proof.Safety

namespace Sys2Proof

open Machine Safety

/-- Settles O60: a stutter keeps the state, and each turn keeps the invariant (`invariant_runTurn`), which does not
speak of the schedule that the turn is taken from. -/
theorem everyStepKeepsInvariant : Obligations.EveryStepKeepsInvariant := by
  intro s s' hinv h
  obtain ⟨_, hs⟩ | ⟨turn, turns, _, hs⟩ := step_cases s <;> rw [hs] at h
  · cases h; exact hinv
  · have hpop : Invariant { s with schedule := turns } := hinv.congr rfl
    exact invariant_runTurn hpop h

end Sys2Proof
end

section
/-! PROOFS. The words of the opcode table (30_encoding.md R63), and the step that runs a decoded command
(20_memory.md R52). -/

namespace Sys2Proof

open Machine

/-- Settles O3: the words of commands are their encodings, and the other two lie in the sets that the decoder
rejects (`decodeRejectsExactly`). -/
theorem decodeSampleWords : Obligations.DecodeSampleWords :=
  have hrsvd := (decodeRejectsExactly 0x00000022#32).right.left
  have hillegal := (decodeRejectsExactly 0xFFFFFFFF#32).left
  ⟨decodeCommand_encodeCommand (.crcInit .peerToPeer),
    decodeCommand_encodeCommand (.crcInit .singleHost),
    decodeCommand_encodeCommand .crcFin,
    decodeCommand_encodeCommand (.ciphInit .peerToPeer),
    decodeCommand_encodeCommand .ciphXform,
    decodeCommand_encodeCommand .seqStart,
    hrsvd.mpr (by decide),
    hillegal.mpr (by decide)⟩

/-- The table's decoder reads a command from the low bits of a number exactly when the decoder of CMD reads it from
the word of those bits. -/
theorem decodeTableWord_eq_some_iff (nbits w : Nat) (i : Instr) :
    decodeTableWord nbits w = some i ↔ decodeCommand (BitVec.ofNat 32 (w % 2 ^ nbits)) = .ok i := by
  unfold decodeTableWord
  cases decodeCommand (BitVec.ofNat 32 (w % 2 ^ nbits)) <;> simp

/-- A turn of `WR CMD` executes the command that the word decodes to, as that is the word of the command. -/
theorem step_lineWR_cmd_of_decodeCommand {s : State} {w : Word} {i : Instr} {turns : List Turn}
    {lines : List HostLine} (hs : s.schedule = .host :: turns) (hp : s.hostProgram = lineWR .cmd w :: lines)
    (hw : decodeCommand w = .ok i) : step s = exec i { s with schedule := turns, hostProgram := lines } := by
  obtain rfl := eq_encodeCommand_of_decodeCommand hw
  exact step_lineWR_cmd hs hp

/-- Where `withFetchWord` places a word, the next step executes the command it decodes to: taking the turn
and the line that were placed gives the state back. -/
theorem step_withFetchWord {s : State} {nbits w : Nat} {i : Instr} (hw : decodeTableWord nbits w = some i) :
    step (s.withFetchWord nbits w) = exec i s :=
  step_lineWR_cmd_of_decodeCommand (s := s.withFetchWord nbits w) rfl rfl
    ((decodeTableWord_eq_some_iff nbits w i).mp hw)

/-- Settles O5: a line that writes to offset 0 is a `WR CMD`, and so is the line that `withFetchWord` places. -/
theorem stepRunsDecodedCommand : Obligations.StepRunsDecodedCommand :=
  ⟨fun _ _ _ _ _ hs hp hw => step_lineWR_cmd_of_decodeCommand hs hp hw, fun _ _ _ hw => step_withFetchWord hw⟩

end Sys2Proof
end

section
/-! PROOFS. The invariant at `State.reset` (70_reset_and_hazards.md R120, R121): the parameters are a legal choice
whatever the unknown values are, and every register is 0. -/

namespace Sys2Proof

open Machine Safety

/-- A number from 1 to 2^32 - 1 added to a word changes it. -/
theorem Config.keyP2P_ne_keySH : Config.params.keyP2P ≠ Config.params.keySH := by
  have hgap := Config.keyGap.isLt
  simp only [Config.params]
  bv_omega

/-- Keys of R5 and an image of R7, whatever values the unknown parameters have. -/
theorem Config.wellFormed_params : Config.params.wellFormed = true := by
  have hkeys := Config.keyP2P_ne_keySH
  have hlen : Config.params.image.length = Config.params.imageLen.toNat := by simp [Config.params]
  simp [Params.wellFormed, hkeys, hlen]

/-- Settles O59: CKS and KSC have never been initialized, and SEQ is as a reset leaves it (`seqInvariant_resetTurn`): a
reset of `State.reset` is `State.reset`. -/
theorem invariantHoldsAtReset : Obligations.InvariantHoldsAtReset where
  payload := Memory.wf_reset
  params := Config.wellFormed_params
  cks := ⟨fun _ => ⟨rfl, rfl, rfl, rfl, rfl⟩, nofun⟩
  ksc := ⟨fun _ => ⟨rfl, rfl, rfl⟩, nofun⟩
  seq := seqInvariant_resetTurn State.reset

end Sys2Proof
end
